-- ==== Sys2Proof/Word.lean ====
section
/-! DEFINITION. The word types of the core (00_scope.md R7, R8): 32-bit registers, 64-bit delay-line
cells, 4-bit register and instance numbers. -/

namespace Sys2Proof

/-- A 32-bit register word (00_scope.md R8). -/
abbrev Word := BitVec 32

/-- A 64-bit cell of a PR delay line (10_state.md R64). -/
abbrev Cell := BitVec 64

/-- A byte lane of the bus (20_memory.md R132). -/
abbrev Byte := BitVec 8

/-- The number of a data register, as the 4-bit fields RD, RS1, RS2, RS3 hold it (30_encoding.md R171). -/
abbrev RegNo := BitVec 4

/-- A unit instance number, as the 4-bit field INST holds it (30_encoding.md R171, R183). -/
abbrev InstNo := BitVec 4

end Sys2Proof
end

