-- ==== Sys2Proof/Config.lean ====
section
/-! DEFINITION. What an implementation or a platform fixes (00_scope.md R7): the two OPEN parameters,
as constants with no body, and the fixed instance counts and widths. -/

namespace Sys2Proof.Config

/-- The page number of the register window: `BASE` is 4096-byte aligned, and nothing else is known of it
(00_scope.md R7, OPEN). Log entry 3. -/
opaque basePage : Nat

/-- `BASE`, the host address of window offset 0 (00_scope.md R7; 20_memory.md R131). -/
def base : Nat := 4096 * basePage

/-- `CMD_LATENCY` in clock cycles; it may differ per opcode, and its argument is the opcode alone, so it
cannot depend on operand values (70_reset_and_hazards.md R482, OPEN). Log entry 4. -/
opaque cmdLatency : BitVec 8 → Nat

/-- The size of the register window in bytes (00_scope.md R7). -/
def windowBytes : Nat := 4096

/-- `NX`, the number of data registers (00_scope.md R7). -/
abbrev numX : Nat := 16

/-- `NPI`, the number of PI instances (00_scope.md R7). -/
abbrev numPi : Nat := 4

/-- `NPR`, the number of PR instances (00_scope.md R7). -/
abbrev numPr : Nat := 2

end Sys2Proof.Config
end

