-- ==== Sys2Proof/Syntax.lean ====
section
/-! DEFINITION. The commands of the core as an inductive type, one constructor per row of
spec/opcode_table.json (30_encoding.md R172, R176). The fields are those the row's encoding uses,
raw as encoded; WellFormed says which values are legal. -/

namespace Sys2Proof

/-- A command. Destinations come first, then sources, then the instance, in the order of the assembler
syntax of 30_encoding.md R181. -/
inductive Instr where
  /-- `clarke xD, xA, xB, xC` (41_transform.md R261). -/
  | clarke (rd rs1 rs2 rs3 : RegNo)
  /-- `iclarke xD, xA, xB` (41_transform.md R262). -/
  | iclarke (rd rs1 rs2 : RegNo)
  /-- `park xD, xA, xB, xT` (41_transform.md R263). -/
  | park (rd rs1 rs2 rs3 : RegNo)
  /-- `ipark xD, xA, xB, xT` (41_transform.md R264). -/
  | ipark (rd rs1 rs2 rs3 : RegNo)
  /-- `pi.upd xD, xR, xF, #k` (42_pi.md R291). -/
  | piUpd (rd rs1 rs2 : RegNo) (inst : InstNo)
  /-- `pi.rst #k` (42_pi.md R292). -/
  | piRst (inst : InstNo)
  /-- `pr.upd xD, xR, xF, #j` (43_pr.md R311). -/
  | prUpd (rd rs1 rs2 : RegNo) (inst : InstNo)
  /-- `pr.rst #j` (43_pr.md R312). -/
  | prRst (inst : InstNo)
  /-- `pr.setf xW, #j` (43_pr.md R313). -/
  | prSetf (rs1 : RegNo) (inst : InstNo)
  /-- `pll.upd xD, xA, xB` (44_pll.md R341). -/
  | pllUpd (rd rs1 rs2 : RegNo)
  /-- `pll.rst` (44_pll.md R342). -/
  | pllRst
  /-- `svm.calc xD, xA, xB, xV` (45_svm.md R371). -/
  | svmCalc (rd rs1 rs2 rs3 : RegNo)
  /-- `svm.mid` (45_svm.md R374). -/
  | svmMid
  /-- `prot.upd xD, xA` (46_protection.md R401). -/
  | protUpd (rd rs1 : RegNo)
  /-- `prot.clr` (46_protection.md R402). -/
  | protClr
  /-- `prot.set xM` (46_protection.md R403). -/
  | protSet (rs1 : RegNo)
  deriving DecidableEq, Repr

end Sys2Proof
end

