-- ==== Sys2Proof/WellFormed.lean ====
section
/-! DEFINITION. The two checks of 30_encoding.md R177 that are about operand values rather than about
fixed bits: register spans (R173) and instance bounds (R174). -/

namespace Sys2Proof

/-- A span of `n` consecutive data registers that begins at `first` ends at or below `X15`
(30_encoding.md R173). -/
def spanFits (first : RegNo) (n : Nat) : Bool := decide (first.toNat + n ≤ Config.numX)

/-- The register-range constraint (30_encoding.md R173). -/
def Instr.spansFit : Instr → Bool
  | .clarke rd _ _ _ => spanFits rd 2
  | .iclarke rd _ _ => spanFits rd 3
  | .park rd _ _ _ => spanFits rd 2
  | .ipark rd _ _ _ => spanFits rd 2
  | .piUpd _ _ _ _ => true
  | .piRst _ => true
  | .prUpd _ _ _ _ => true
  | .prRst _ => true
  | .prSetf _ _ => true
  | .pllUpd rd _ _ => spanFits rd 2
  | .pllRst => true
  | .svmCalc rd _ _ _ => spanFits rd 3
  | .svmMid => true
  | .protUpd _ rs1 => spanFits rs1 5
  | .protClr => true
  | .protSet _ => true

/-- The instance constraint (30_encoding.md R174). -/
def Instr.instanceExists : Instr → Bool
  | .clarke _ _ _ _ => true
  | .iclarke _ _ _ => true
  | .park _ _ _ _ => true
  | .ipark _ _ _ _ => true
  | .piUpd _ _ _ k => decide (k.toNat < Config.numPi)
  | .piRst k => decide (k.toNat < Config.numPi)
  | .prUpd _ _ _ j => decide (j.toNat < Config.numPr)
  | .prRst j => decide (j.toNat < Config.numPr)
  | .prSetf _ j => decide (j.toNat < Config.numPr)
  | .pllUpd _ _ _ => true
  | .pllRst => true
  | .svmCalc _ _ _ _ => true
  | .svmMid => true
  | .protUpd _ _ => true
  | .protClr => true
  | .protSet _ => true

/-- A command whose operand values are legal (30_encoding.md R173, R174). -/
def Instr.wellFormed (i : Instr) : Bool := i.spansFit && i.instanceExists

end Sys2Proof
end

