-- ==== Sys2Proof/Decode.lean ====
section
/-! DEFINITION. Command decoding, total on 32-bit words, with a named reason for every illegal word
(30_encoding.md R171, R175-R177), and the encoder written from the same field table. -/

namespace Sys2Proof

/-- Why a command word is illegal: the four causes of 60_exceptions.md R431. -/
inductive Illegal where
  /-- The opcode is not one of the 16 of 30_encoding.md R176. -/
  | unassignedOpcode
  /-- A field the command does not use, or bits 31:28, is not 0 (30_encoding.md R175). -/
  | unusedField
  /-- A span of registers runs past `X15` (30_encoding.md R173). -/
  | registerSpan
  /-- `INST` names no instance (30_encoding.md R174). -/
  | instanceRange
  deriving DecidableEq, Repr

/-- The fields of a `CMD32` word (30_encoding.md R171). -/
structure Fields where
  op : BitVec 8
  rd : RegNo
  rs1 : RegNo
  rs2 : RegNo
  rs3 : RegNo
  inst : InstNo
  reserved : BitVec 4
  deriving DecidableEq, Repr

/-- Splits a command word into its fields (30_encoding.md R171). -/
def fieldsOf (w : Word) : Fields where
  op := w.extractLsb' 0 8
  rd := w.extractLsb' 8 4
  rs1 := w.extractLsb' 12 4
  rs2 := w.extractLsb' 16 4
  rs3 := w.extractLsb' 20 4
  inst := w.extractLsb' 24 4
  reserved := w.extractLsb' 28 4

/-- The checks of 30_encoding.md R177 after the opcode: the unused fields and the reserved bits are 0
(R175), the spans fit (R173), the instance exists (R174). -/
def accept (f : Fields) (unused : List (BitVec 4)) (i : Instr) : Except Illegal Instr :=
  if f.reserved ≠ 0 ∨ ¬ unused.all (· == 0) then .error .unusedField
  else if ¬ i.spansFit then .error .registerSpan
  else if ¬ i.instanceExists then .error .instanceRange
  else .ok i

/-- The opcode map (30_encoding.md R176) over the operand forms (R172). -/
def decodeFields (f : Fields) : Except Illegal Instr :=
  match f.op.toNat with
  | 0x01 => accept f [f.inst] (.clarke f.rd f.rs1 f.rs2 f.rs3)
  | 0x02 => accept f [f.rs3, f.inst] (.iclarke f.rd f.rs1 f.rs2)
  | 0x03 => accept f [f.inst] (.park f.rd f.rs1 f.rs2 f.rs3)
  | 0x04 => accept f [f.inst] (.ipark f.rd f.rs1 f.rs2 f.rs3)
  | 0x10 => accept f [f.rs3] (.piUpd f.rd f.rs1 f.rs2 f.inst)
  | 0x11 => accept f [f.rd, f.rs1, f.rs2, f.rs3] (.piRst f.inst)
  | 0x20 => accept f [f.rs3] (.prUpd f.rd f.rs1 f.rs2 f.inst)
  | 0x21 => accept f [f.rd, f.rs1, f.rs2, f.rs3] (.prRst f.inst)
  | 0x22 => accept f [f.rd, f.rs2, f.rs3] (.prSetf f.rs1 f.inst)
  | 0x30 => accept f [f.rs3, f.inst] (.pllUpd f.rd f.rs1 f.rs2)
  | 0x31 => accept f [f.rd, f.rs1, f.rs2, f.rs3, f.inst] .pllRst
  | 0x40 => accept f [f.inst] (.svmCalc f.rd f.rs1 f.rs2 f.rs3)
  | 0x41 => accept f [f.rd, f.rs1, f.rs2, f.rs3, f.inst] .svmMid
  | 0x50 => accept f [f.rs2, f.rs3, f.inst] (.protUpd f.rd f.rs1)
  | 0x51 => accept f [f.rd, f.rs1, f.rs2, f.rs3, f.inst] .protClr
  | 0x52 => accept f [f.rd, f.rs2, f.rs3, f.inst] (.protSet f.rs1)
  | _ => .error .unassignedOpcode

/-- The decoder: the command a word stands for, or why it is illegal (30_encoding.md R177). -/
def decode (w : Word) : Except Illegal Instr := decodeFields (fieldsOf w)

/-- The command word whose bits are `w` in the opcode table's numbering, the bits from `nbits` on being 0.
The only length is 32 bits (30_encoding.md R180), and the table's bit `b` is bit `b` of the word on the
bus, whatever the byte lanes (20_memory.md R132). -/
def tableWord (nbits w : Nat) : Word := BitVec.ofNat 32 (w % 2 ^ nbits)

/-- The instruction the decoder reads from a word in the opcode table's numbering; none where it refuses. -/
def decodeTableWord (nbits w : Nat) : Option Instr :=
  match decode (tableWord nbits w) with
  | .ok i => some i
  | .error _ => none

/-- Puts the fields of a command together, bits 31:28 zero (30_encoding.md R171). -/
def cmd32 (op : BitVec 8) (rd rs1 rs2 rs3 : RegNo) (inst : InstNo) : Word :=
  0#4 ++ inst ++ rs3 ++ rs2 ++ rs1 ++ rd ++ op

/-- The opcode of a command (30_encoding.md R176). -/
def Instr.opcode : Instr → BitVec 8
  | .clarke _ _ _ _ => 0x01
  | .iclarke _ _ _ => 0x02
  | .park _ _ _ _ => 0x03
  | .ipark _ _ _ _ => 0x04
  | .piUpd _ _ _ _ => 0x10
  | .piRst _ => 0x11
  | .prUpd _ _ _ _ => 0x20
  | .prRst _ => 0x21
  | .prSetf _ _ => 0x22
  | .pllUpd _ _ _ => 0x30
  | .pllRst => 0x31
  | .svmCalc _ _ _ _ => 0x40
  | .svmMid => 0x41
  | .protUpd _ _ => 0x50
  | .protClr => 0x51
  | .protSet _ => 0x52

/-- The encoder: the one word of a command, unused fields 0 (30_encoding.md R172, R175). -/
def encode (i : Instr) : Word :=
  match i with
  | .clarke rd rs1 rs2 rs3 => cmd32 i.opcode rd rs1 rs2 rs3 0
  | .iclarke rd rs1 rs2 => cmd32 i.opcode rd rs1 rs2 0 0
  | .park rd rs1 rs2 rs3 => cmd32 i.opcode rd rs1 rs2 rs3 0
  | .ipark rd rs1 rs2 rs3 => cmd32 i.opcode rd rs1 rs2 rs3 0
  | .piUpd rd rs1 rs2 k => cmd32 i.opcode rd rs1 rs2 0 k
  | .piRst k => cmd32 i.opcode 0 0 0 0 k
  | .prUpd rd rs1 rs2 j => cmd32 i.opcode rd rs1 rs2 0 j
  | .prRst j => cmd32 i.opcode 0 0 0 0 j
  | .prSetf rs1 j => cmd32 i.opcode 0 rs1 0 0 j
  | .pllUpd rd rs1 rs2 => cmd32 i.opcode rd rs1 rs2 0 0
  | .pllRst => cmd32 i.opcode 0 0 0 0 0
  | .svmCalc rd rs1 rs2 rs3 => cmd32 i.opcode rd rs1 rs2 rs3 0
  | .svmMid => cmd32 i.opcode 0 0 0 0 0
  | .protUpd rd rs1 => cmd32 i.opcode rd rs1 0 0 0
  | .protClr => cmd32 i.opcode 0 0 0 0 0
  | .protSet rs1 => cmd32 i.opcode 0 rs1 0 0 0

/-- A row of the opcode map with the bounds on its operand fields: `RD` and `RS1` at most (30_encoding.md
R173), `INST` below (R174); 16 where the mask leaves no choice. -/
structure OpcodeRow where
  mnemonic : String
  pattern : Word
  mask : Word
  maxRd : Nat
  maxRs1 : Nat
  instances : Nat
  deriving DecidableEq, Repr

/-- The opcode map as the spec tables it (30_encoding.md R176), with the bounds of R173 and R174. -/
def opcodeRows : List OpcodeRow :=
  [⟨"clarke", 0x00000001, 0xFF0000FF, 14, 15, 16⟩,
    ⟨"iclarke", 0x00000002, 0xFFF000FF, 13, 15, 16⟩,
    ⟨"park", 0x00000003, 0xFF0000FF, 14, 15, 16⟩,
    ⟨"ipark", 0x00000004, 0xFF0000FF, 14, 15, 16⟩,
    ⟨"pi.upd", 0x00000010, 0xF0F000FF, 15, 15, 4⟩,
    ⟨"pi.rst", 0x00000011, 0xF0FFFFFF, 15, 15, 4⟩,
    ⟨"pr.upd", 0x00000020, 0xF0F000FF, 15, 15, 2⟩,
    ⟨"pr.rst", 0x00000021, 0xF0FFFFFF, 15, 15, 2⟩,
    ⟨"pr.setf", 0x00000022, 0xF0FF0FFF, 15, 15, 2⟩,
    ⟨"pll.upd", 0x00000030, 0xFFF000FF, 14, 15, 16⟩,
    ⟨"pll.rst", 0x00000031, 0xFFFFFFFF, 15, 15, 16⟩,
    ⟨"svm.calc", 0x00000040, 0xFF0000FF, 13, 15, 16⟩,
    ⟨"svm.mid", 0x00000041, 0xFFFFFFFF, 15, 15, 16⟩,
    ⟨"prot.upd", 0x00000050, 0xFFFF00FF, 15, 11, 16⟩,
    ⟨"prot.clr", 0x00000051, 0xFFFFFFFF, 15, 15, 16⟩,
    ⟨"prot.set", 0x00000052, 0xFFFF0FFF, 15, 15, 16⟩]

/-- `Legal(w)` as the spec writes it, by mask and match (30_encoding.md R177). The decoder does not use it:
that it accepts exactly these words is a claim. -/
def legalWord (w : Word) : Bool :=
  opcodeRows.any fun r =>
    w &&& r.mask == r.pattern && decide ((w.toNat >>> 8) % 16 ≤ r.maxRd)
      && decide ((w.toNat >>> 12) % 16 ≤ r.maxRs1) && decide ((w.toNat >>> 24) % 16 < r.instances)

end Sys2Proof
end

