-- ==== Sys2Proof/Machine/Numerics.lean ====
section
/-! DEFINITION. The arithmetic primitives of 40_numerics.md on mathematical integers (00_scope.md R9):
rounding, saturation, division, square root, sine and cosine, angle step and clamp. The flags that a
saturation sets are in Flags. -/

namespace Sys2Proof.Machine

/-- The largest signed 32-bit value, `2^31 - 1`. -/
def max32 : Int := 2147483647

/-- The smallest signed 32-bit value, `-2^31`. -/
def min32 : Int := -2147483648

/-- The largest signed 64-bit value, `2^63 - 1`. -/
def max64 : Int := 9223372036854775807

/-- The smallest signed 64-bit value, `-2^63`. -/
def min64 : Int := -9223372036854775808

/-- 1.0 in Q16.16 (00_scope.md R11). -/
def one : Int := 65536

/-- 1.0 in Q2.30 (00_scope.md R11). -/
def one30 : Int := 1073741824

/-- `asr(v, i) = floor(v / 2^i)` (40_numerics.md R217). Integer division by a positive number rounds down. -/
def asr (v : Int) (i : Nat) : Int := v / ((2 ^ i : Nat) : Int)

/-- `rnd_k(x)`, the rounding shift, half up, for `k >= 1` (40_numerics.md R211). -/
def rnd (k : Nat) (x : Int) : Int := asr (x + ((2 ^ (k - 1) : Nat) : Int)) k

/-- The value of `sat32(x)` (40_numerics.md R212); `clips32` is its flag. -/
def sat32 (x : Int) : Int := if x > max32 then max32 else if x < min32 then min32 else x

/-- The value of `sat64(x)` (40_numerics.md R213); `clips64` is its flag. -/
def sat64 (x : Int) : Int := if x > max64 then max64 else if x < min64 then min64 else x

/-- `divt(n, d) = sign(n)·sign(d)·floor(|n| / |d|)`, for `d != 0` (40_numerics.md R214). Every use has a
guard that proves `d != 0`; at 0 Lean's quotient is 0, which no rule reads. -/
def divt (n d : Int) : Int := n.sign * d.sign * ((n.natAbs / d.natAbs : Nat) : Int)

/-- One digit of the square root at a time, from digit `k - 1` down: `r` is the part found so far. -/
def isqrtFrom (n : Nat) : Nat → Nat → Nat
  | 0, r => r
  | k + 1, r => if (r + 2 ^ k) * (r + 2 ^ k) ≤ n then isqrtFrom n k (r + 2 ^ k) else isqrtFrom n k r

/-- `isqrt(n)`, the largest `r` with `r² <= n` (40_numerics.md R215). -/
def isqrt (n : Nat) : Nat := isqrtFrom n (n.log2 / 2 + 1) 0

/-- `ATAN[0..23]`, in `ANG` units (40_numerics.md R216). -/
def cordicAtan : List Int :=
  [536870912, 316933406, 167458907, 85004756, 42667331, 21354465, 10679838, 5340245, 2670163, 1335087,
    667544, 333772, 166886, 83443, 41722, 20861, 10430, 5215, 2608, 1304, 652, 326, 163, 81]

/-- `KINV`, the CORDIC start value (40_numerics.md R216). -/
def cordicKinv : Int := 652032874

/-- The iterate of the CORDIC rotation (40_numerics.md R217). -/
structure Cordic where
  x : Int
  y : Int
  z : Int
  deriving DecidableEq, Repr

/-- One rotation, by `±atan(2^-i)`; the sides use the values from before it (40_numerics.md R217). -/
def cordicStep (i : Nat) (atan : Int) (c : Cordic) : Cordic :=
  if c.z ≥ 0 then ⟨c.x - asr c.y i, c.y + asr c.x i, c.z - atan⟩
  else ⟨c.x + asr c.y i, c.y - asr c.x i, c.z + atan⟩

/-- The rotations by the listed angles, the first of them with index `i` (40_numerics.md R217). -/
def cordicRun : List Int → Nat → Cordic → Cordic
  | [], _, c => c
  | atan :: rest, i, c => cordicRun rest (i + 1) (cordicStep i atan c)

/-- The residual angle `θ[29:0]` rotated from `(KINV, 0)` (40_numerics.md R217). -/
def cordic (residual : BitVec 30) : Cordic :=
  cordicRun cordicAtan 0 ⟨cordicKinv, 0, (residual.toNat : Int)⟩

/-- The quadrant step of `SINCOS` (40_numerics.md R217). -/
def quadrant (k : BitVec 2) (x y : Int) : Int × Int :=
  match k.toNat with
  | 0 => (x, y)
  | 1 => (-y, x)
  | 2 => (-x, -y)
  | _ => (y, -x)

/-- `SINCOS(θ)`: `(c, s)` in Q2.30 for an `ANG` word (40_numerics.md R217). -/
def sincos (th : Word) : Int × Int :=
  let c := cordic (th.extractLsb' 0 30)
  quadrant (th.extractLsb' 30 2) c.x c.y

/-- `K13 = round(2^30 / 3)` (40_numerics.md R219). -/
def k13 : Int := 357913941

/-- `KIS3 = round(2^30 / √3)` (40_numerics.md R219). -/
def kis3 : Int := 619925131

/-- `KS3 = round(√3 · 2^30)` (40_numerics.md R219). -/
def ks3 : Int := 1859775393

/-- `KS32 = round(√3/2 · 2^30)` (40_numerics.md R219). -/
def ks32 : Int := 929887697

/-- `K32 = 3/2 · 2^30` (40_numerics.md R219). -/
def k32 : Int := 1610612736

/-- `KR2B = round(2^48 / (2π))` (40_numerics.md R219). -/
def kr2b : Int := 44798133900177

/-- `ANGSTEP(ω)` for the sampling period `t = U(TS)` (40_numerics.md R220). -/
def angStep (w t : Int) : Int := rnd 64 (w * t * kr2b)

/-- `CLAMP(x, lo, hi)`, the upper bound tested first (40_numerics.md R221). -/
def clamp (x lo hi : Int) : Int := if x > hi then hi else if x < lo then lo else x

end Sys2Proof.Machine
end

