-- ==== Sys2Proof/Machine/State.lean ====
section
/-! DEFINITION. The state of the core (10_state.md R40) as plain data, the events of its host port, and
the state after reset (70_reset_and_hazards.md R471). -/

namespace Sys2Proof.Machine

/-- One PI regulator instance (10_state.md R48-R55). -/
structure PiUnit where
  kp : Word
  ki : Word
  umax : Word
  umin : Word
  integ : Word
  perr : Word
  out : Word
  sat : Bool
  deriving DecidableEq, Repr

/-- One PR regulator instance (10_state.md R56-R66); `w1` and `w2` are the 64-bit delay-line cells. -/
structure PrUnit where
  kp : Word
  kr : Word
  wc : Word
  umax : Word
  umin : Word
  w0 : Word
  b0 : Word
  b1 : Word
  b2 : Word
  a1 : Word
  a2 : Word
  w1 : Cell
  w2 : Cell
  out : Word
  sat : Bool
  deriving DecidableEq, Repr

/-- The phase-locked loop (10_state.md R67-R80). -/
structure PllUnit where
  kp : Word
  ki : Word
  wff : Word
  wmin : Word
  wmax : Word
  lockThr : Word
  lockN : BitVec 16
  theta : Word
  omega : Word
  integ : Word
  vd : Word
  vq : Word
  vmag : Word
  lock : Bool
  lcnt : BitVec 16
  deriving DecidableEq, Repr

/-- The space-vector modulator (10_state.md R81, R82). -/
structure SvmUnit where
  dutyA : Word
  dutyB : Word
  dutyC : Word
  sector : BitVec 3
  deriving DecidableEq, Repr

/-- The protection manager (10_state.md R83-R92). -/
structure ProtUnit where
  imax : Word
  vdcmax : Word
  vdcmin : Word
  tmax : Word
  debounce : BitVec 16
  active : BitVec 8
  latched : BitVec 8
  trig : Bool
  cntOc : BitVec 16
  cntOv : BitVec 16
  cntUv : BitVec 16
  cntOt : BitVec 16
  deriving DecidableEq, Repr

/-- A host address as the core's port sees it (20_memory.md R131): an offset of the window, or an address
outside `BASE`..`BASE + 0xFFF`, which is not addressed to the core. `busAddr` decodes it. -/
inductive BusAddr where
  | window (off : BitVec 12)
  | outside (addr : Nat)
  deriving DecidableEq, Repr

/-- One event at the core's inputs: a bus transaction of `n` bytes (20_memory.md R135, R136) or the reset
event (70_reset_and_hazards.md R470). The data of a write are the four lanes of the bus; an access of
another width is refused before they are looked at. -/
inductive HostEvent where
  | read (addr : BusAddr) (n : Nat)
  | write (addr : BusAddr) (n : Nat) (v : Word)
  | reset
  deriving DecidableEq, Repr

/-- What the bus port answers to a transaction. -/
inductive BusResponse where
  /-- No answer: no transaction has been addressed to the core since reset, or the latest one was not
  (20_memory.md R131). -/
  | silent
  /-- A write that was served (20_memory.md R136). -/
  | okay
  /-- A read that was served, with its data (20_memory.md R135). -/
  | data (w : Word)
  /-- The bus error response (60_exceptions.md R435); it carries no data. -/
  | busError
  deriving DecidableEq, Repr

/-- The architectural state of the core (10_state.md R40), and the two fields that stand for the host
outside it: the events it is going to issue, oldest first, and the latest answer of the port (log entries
1 and 2). `ID` is a constant, `CMD` holds nothing, and `STATUS.SAFE` and `STATUS.PLL_LOCK` are views
(20_memory.md R139), so none of them is a field. -/
structure State where
  /-- `CTRL.CFG_LOCK` (10_state.md R44). -/
  cfgLock : Bool
  /-- `STATUS.ILL` (10_state.md R45). -/
  ill : Bool
  /-- `STATUS.ARGERR`. -/
  argerr : Bool
  /-- `STATUS.SATF`. -/
  satf : Bool
  /-- `STATUS.WLOCK`. -/
  wlock : Bool
  /-- `TS`, UQ0.32 seconds (10_state.md R47). -/
  ts : Word
  /-- `X0`..`X15` (10_state.md R42). -/
  x : Vector Word 16
  /-- `PI[0]`..`PI[3]`. -/
  pi : Vector PiUnit 4
  /-- `PR[0]`, `PR[1]`. -/
  pr : Vector PrUnit 2
  pll : PllUnit
  svm : SvmUnit
  prot : ProtUnit
  /-- The model's own: what the host is going to issue (log entry 1). -/
  pending : List HostEvent
  /-- The model's own: the port's answer to the latest transaction (log entry 2). -/
  resp : BusResponse
  deriving DecidableEq, Repr

/-- Why the machine stops. The core has no such reason: every error is a sticky bit or a bus error
response, after which it goes on (60_exceptions.md R430, R435, R437). So there is no constructor, and
nothing raises a fault (safe and unsafe do not arise). -/
inductive Fault where
  deriving DecidableEq, Repr

/-- Why a command has no meaning. -/
inductive Refusal where
  /-- A command of the opcode table that is not modelled yet. Only `exec`'s arms may raise it, and none
  does. Safe: the model would stop where the core goes on. -/
  | notModelled (mnemonic : String)
  deriving DecidableEq, Repr

/-- The outcome of a command or of a step. -/
abbrev Exec := Host.Outcome State Fault Refusal

/-- A PI instance after reset (70_reset_and_hazards.md R471). -/
def PiUnit.reset : PiUnit where
  kp := 0
  ki := 0
  umax := 0
  umin := 0
  integ := 0
  perr := 0
  out := 0
  sat := false

/-- A PR instance after reset (70_reset_and_hazards.md R471). -/
def PrUnit.reset : PrUnit where
  kp := 0
  kr := 0
  wc := 0
  umax := 0
  umin := 0
  w0 := 0
  b0 := 0
  b1 := 0
  b2 := 0
  a1 := 0
  a2 := 0
  w1 := 0
  w2 := 0
  out := 0
  sat := false

/-- The PLL after reset; `OMEGA` is 0, not `WFF` (70_reset_and_hazards.md R471). -/
def PllUnit.reset : PllUnit where
  kp := 0
  ki := 0
  wff := 0
  wmin := 0
  wmax := 0
  lockThr := 0
  lockN := 0
  theta := 0
  omega := 0
  integ := 0
  vd := 0
  vq := 0
  vmag := 0
  lock := false
  lcnt := 0

/-- The modulator after reset: the zero-voltage midpoint (10_state.md R81; 70_reset_and_hazards.md R471). -/
def SvmUnit.reset : SvmUnit where
  dutyA := 0x8000
  dutyB := 0x8000
  dutyC := 0x8000
  sector := 0

/-- The protection manager after reset (70_reset_and_hazards.md R471). -/
def ProtUnit.reset : ProtUnit where
  imax := 0
  vdcmax := 0
  vdcmin := 0
  tmax := 0
  debounce := 0
  active := 0
  latched := 0
  trig := false
  cntOc := 0
  cntOv := 0
  cntUv := 0
  cntOt := 0

/-- The machine right after reset (70_reset_and_hazards.md R471). The host has issued nothing and the port
has answered nothing (DESIGN CHOICE, log entries 1 and 2). -/
def State.reset : State where
  cfgLock := false
  ill := false
  argerr := false
  satf := false
  wlock := false
  ts := 0
  x := Vector.replicate 16 0
  pi := Vector.replicate 4 PiUnit.reset
  pr := Vector.replicate 2 PrUnit.reset
  pll := PllUnit.reset
  svm := SvmUnit.reset
  prot := ProtUnit.reset
  pending := []
  resp := .silent

end Sys2Proof.Machine
end

