-- ==== Sys2Proof/Machine/Flags.lean ====
section
/-! DEFINITION. The flags of the core (10_state.md R45, R95): when a saturation sets `STATUS.SATF`, the
views `SAFE` and `PLL_LOCK`, and the words that hold flags. -/

namespace Sys2Proof.Machine

/-- `sat32(x)` changes its argument, and so sets `STATUS.SATF` (40_numerics.md R212). -/
def clips32 (x : Int) : Bool := decide (x > max32) || decide (x < min32)

/-- `sat64(x)` changes its argument, and so sets `STATUS.SATF` (40_numerics.md R213). -/
def clips64 (x : Int) : Bool := decide (x > max64) || decide (x < min64)

/-- Ors a saturation into the sticky bit `STATUS.SATF`; no command clears it (60_exceptions.md R433, R438). -/
def State.noteSat (clipped : Bool) (s : State) : State := { s with satf := s.satf || clipped }

/-- `STATUS.SAFE`, a view of `PROT.ACTIVE` (10_state.md R45; 20_memory.md R139). -/
def State.safe (s : State) : Bool := s.prot.active == 0

/-- A flag as the word whose bit `i` it is. -/
def flagAt (b : Bool) (i : Nat) : Word := if b then BitVec.ofNat 32 (2 ^ i) else 0

/-- The word `STATUS` reads as (20_memory.md R135; 10_state.md R45). -/
def State.statusWord (s : State) : Word :=
  flagAt s.ill 0 ||| flagAt s.argerr 1 ||| flagAt s.satf 2 ||| flagAt s.wlock 3
    ||| flagAt s.safe 8 ||| flagAt s.pll.lock 9

/-- The word `PLL.LSTAT` reads as: `LOCK` in bit 0, `LCNT` in bits 31:16 (10_state.md R80). -/
def lstatWord (p : PllUnit) : Word := p.lcnt ++ (flagAt p.lock 0).extractLsb' 0 16

/-- A write of `v` to `STATUS` clears each of the bits 3:0 that is 1 in `v`, and nothing else
(10_state.md R45). -/
def State.clearStatus (v : Word) (s : State) : State :=
  { s with
    ill := s.ill && !v.getLsbD 0
    argerr := s.argerr && !v.getLsbD 1
    satf := s.satf && !v.getLsbD 2
    wlock := s.wlock && !v.getLsbD 3 }

/-- A write of `v` to `CTRL` sets `CFG_LOCK` if bit 0 is 1; nothing but reset clears it (10_state.md R44). -/
def State.writeCtrl (v : Word) (s : State) : State := { s with cfgLock := s.cfgLock || v.getLsbD 0 }

/-- The output ports (10_state.md R93). -/
structure Ports where
  dutyA : BitVec 17
  dutyB : BitVec 17
  dutyC : BitVec 17
  sector : BitVec 3
  safe : Bool
  pllLock : Bool
  deriving DecidableEq, Repr

/-- The levels the core drives: each mirrors its register at all times (10_state.md R93). -/
def State.ports (s : State) : Ports where
  dutyA := s.svm.dutyA.extractLsb' 0 17
  dutyB := s.svm.dutyB.extractLsb' 0 17
  dutyC := s.svm.dutyC.extractLsb' 0 17
  sector := s.svm.sector
  safe := s.safe
  pllLock := s.pll.lock

end Sys2Proof.Machine
end

