-- ==== Sys2Proof/Machine/Operands.lean ====
section
/-! DEFINITION. The operand forms of the commands (30_encoding.md R172, R183): data registers read as `S`
or `U`, destinations written in order (R179), and unit instances named by `INST` (R174). -/

namespace Sys2Proof.Machine

/-- `S(w)`, the two's complement value of a word (00_scope.md R10). -/
def sv (w : Word) : Int := w.toInt

/-- `U(w)`, the unsigned value of a word (00_scope.md R10). -/
def uv (w : Word) : Int := (w.toNat : Int)

/-- The signed value of a 64-bit cell (00_scope.md R11; 10_state.md R64). -/
def cv (c : Cell) : Int := c.toInt

/-- An integer in range as the register word that holds it, `v mod 2^32` (00_scope.md R10). -/
def toWord (v : Int) : Word := BitVec.ofInt 32 v

/-- An integer in range as the 64-bit cell that holds it. -/
def toCell (v : Int) : Cell := BitVec.ofInt 64 v

/-- Read data register `X[r]` (00_scope.md R12). -/
def State.readX (s : State) (r : RegNo) : Word := s.x[r.toNat]'r.isLt

/-- Write data register `X[r]` (00_scope.md R12). -/
def State.writeX (r : RegNo) (v : Word) (s : State) : State := { s with x := s.x.set r.toNat v r.isLt }

/-- A signal operand, `S(X[r])` in Q16.16 (30_encoding.md R183). -/
def State.sx (s : State) (r : RegNo) : Int := sv (s.readX r)

/-- Write `X[rd], X[rd+1]` in that order (30_encoding.md R179). -/
def State.writeX2 (rd : RegNo) (v0 v1 : Word) (s : State) : State :=
  (s.writeX rd v0).writeX (rd + 1) v1

/-- Write `X[rd], X[rd+1], X[rd+2]` in that order (30_encoding.md R179). -/
def State.writeX3 (rd : RegNo) (v0 v1 v2 : Word) (s : State) : State :=
  ((s.writeX rd v0).writeX (rd + 1) v1).writeX (rd + 2) v2

/-- The PI instance an `INST` field names, if there is one (30_encoding.md R174). -/
def piInstance (k : InstNo) : Option (Fin 4) := if h : k.toNat < 4 then some ⟨k.toNat, h⟩ else none

/-- The PR instance an `INST` field names, if there is one (30_encoding.md R174). -/
def prInstance (j : InstNo) : Option (Fin 2) := if h : j.toNat < 2 then some ⟨j.toNat, h⟩ else none

/-- Replace the registers of `PI[k]`. -/
def State.setPi (k : Fin 4) (p : PiUnit) (s : State) : State := { s with pi := s.pi.set k p }

/-- Replace the registers of `PR[j]`. -/
def State.setPr (j : Fin 2) (p : PrUnit) (s : State) : State := { s with pr := s.pr.set j p }

/-- Replace the registers of the PLL. -/
def State.setPll (p : PllUnit) (s : State) : State := { s with pll := p }

/-- Replace the registers of the modulator. -/
def State.setSvm (p : SvmUnit) (s : State) : State := { s with svm := p }

/-- Replace the registers of the protection manager. -/
def State.setProt (p : ProtUnit) (s : State) : State := { s with prot := p }

end Sys2Proof.Machine
end

