-- ==== Sys2Proof/Machine/Ops.lean ====
section
/-! DEFINITION. The shared operations: raising an error (60_exceptions.md R430-R434), which is what this
core has in place of taking an exception, the reset event (70_reset_and_hazards.md R470), the answer of
the bus port, and the address decoder (20_memory.md R131). -/

namespace Sys2Proof.Machine

/-- The sticky error bits of `STATUS` that stand for an operation that was not done (60_exceptions.md
R430): codes 0, 1 and 3. `SATF`, code 2, is `State.noteSat`. -/
inductive ErrorBit where
  | ill
  | argerr
  | wlock
  deriving DecidableEq, Repr

/-- Raise an error: set its bit and discard every other effect (00_scope.md R12; 60_exceptions.md R431,
R432, R434). Nothing is saved, no mode changes and no control moves (R437), so there is nothing to return
from (R439). -/
def State.raise (e : ErrorBit) (s : State) : State :=
  match e with
  | .ill => { s with ill := true }
  | .argerr => { s with argerr := true }
  | .wlock => { s with wlock := true }

/-- The result of a command whose operand values are legal if `ok`: `done`, or else ILL alone
(60_exceptions.md R431). -/
def whenLegal (ok : Bool) (s done : State) : Exec := .next (if ok then done else s.raise .ill)

/-- A command on the PI instance `k`; ILL alone if there is none (30_encoding.md R174). -/
def onPi (k : InstNo) (s : State) (f : Fin 4 → State) : Exec :=
  .next (match piInstance k with
    | some i => f i
    | none => s.raise .ill)

/-- A command on the PR instance `j`; ILL alone if there is none (30_encoding.md R174). -/
def onPr (j : InstNo) (s : State) (f : Fin 2 → State) : Exec :=
  .next (match prInstance j with
    | some i => f i
    | none => s.raise .ill)

/-- The answer of the bus port to a transaction. -/
def State.respond (r : BusResponse) (s : State) : State := { s with resp := r }

/-- The reset event: every register takes its reset value and an answer in flight is dropped
(70_reset_and_hazards.md R470, R471). What the host issues next is the host's and stays. -/
def State.resetEvent (s : State) : State := { State.reset with pending := s.pending }

/-- The address decoder of the window at `base` (20_memory.md R131): offsets are relative to `base`, and
the core decodes bits 11:0. -/
def busAddrAt (base addr : Nat) : BusAddr :=
  if base ≤ addr ∧ addr < base + Config.windowBytes then .window (BitVec.ofNat 12 (addr - base))
  else .outside addr

/-- A host address as the port of this core sees it, its window at `BASE` (20_memory.md R131). -/
def busAddr (addr : Nat) : BusAddr := busAddrAt Config.base addr

/-- The host issues a read of `n` bytes at a host address, after what it has issued already
(20_memory.md R141). -/
def State.issueRead (addr n : Nat) (s : State) : State :=
  { s with pending := s.pending ++ [.read (busAddr addr) n] }

/-- The host issues a write of `n` bytes at a host address, after what it has issued already. -/
def State.issueWrite (addr n : Nat) (v : Word) (s : State) : State :=
  { s with pending := s.pending ++ [.write (busAddr addr) n v] }

end Sys2Proof.Machine
end

