-- ==== Sys2Proof/Machine/Pi.lean ====
section
/-! DEFINITION. The PI regulator commands (42_pi.md R290-R292). -/

namespace Sys2Proof.Machine

/-- The proportional term `Pt` (42_pi.md R291). -/
def piProp (p : PiUnit) (e : Int) : Int := rnd 16 (sv p.kp * e)

/-- The tentative integrator `It`, `t = U(TS)` (42_pi.md R291). -/
def piInteg (p : PiUnit) (t e : Int) : Int := sv p.integ + rnd 48 (sv p.ki * t * e)

/-- A PI update that has chosen its output: `u`, the saturation flag, and whether the integrator advances
to `sat32(it)` or holds (42_pi.md R291). -/
def piStore (p : PiUnit) (e it : Int) (u : Int) (sat advance : Bool) : PiUnit :=
  { p with
    integ := if advance then toWord (sat32 it) else p.integ
    perr := toWord e
    out := toWord u
    sat := sat }

/-- One PI update and whether it sets `STATUS.SATF` (42_pi.md R291). The upper bound is tested first; at a
bound the integrator advances only if the sign of the error unwinds it, and a `sat32` of a held integrator
is not evaluated. -/
def piUpdate (p : PiUnit) (t ref fb : Int) : PiUnit × Bool :=
  let e := sat32 (ref - fb)
  let it := piInteg p t e
  let ut := piProp p e + it
  if ut > sv p.umax then
    (piStore p e it (sv p.umax) true (decide (e < 0)), clips32 (ref - fb) || (decide (e < 0) && clips32 it))
  else if ut < sv p.umin then
    (piStore p e it (sv p.umin) true (decide (e > 0)), clips32 (ref - fb) || (decide (e > 0) && clips32 it))
  else (piStore p e it ut false true, clips32 (ref - fb) || clips32 it)

/-- `pi.upd xD, xR, xF, #k` (42_pi.md R291). -/
def execPiUpd (rd rs1 rs2 : RegNo) (k : InstNo) (s : State) : Exec :=
  onPi k s fun i =>
    let r := piUpdate s.pi[i] (uv s.ts) (s.sx rs1) (s.sx rs2)
    ((s.noteSat r.2).setPi i r.1).writeX rd r.1.out

/-- `pi.rst #k` (42_pi.md R292): configuration is kept, and no `STATUS` bit changes. -/
def execPiRst (k : InstNo) (s : State) : Exec :=
  onPi k s fun i => s.setPi i { s.pi[i] with integ := 0, perr := 0, out := 0, sat := false }

end Sys2Proof.Machine
end

