-- ==== Sys2Proof/Machine/Transform.lean ====
section
/-! DEFINITION. The coordinate transform commands (41_transform.md R260-R264). They read data registers
and write data registers and `STATUS.SATF` only. -/

namespace Sys2Proof.Machine

/-- A result saturated to its register (40_numerics.md R212). -/
def satWord (v : Int) : Word := toWord (sat32 v)

/-- Two saturated results in `X[rd], X[rd+1]`, with the flag of the saturations. -/
def State.storeSat2 (rd : RegNo) (v0 v1 : Int) (s : State) : State :=
  (s.noteSat (clips32 v0 || clips32 v1)).writeX2 rd (satWord v0) (satWord v1)

/-- Three saturated results in `X[rd], X[rd+1], X[rd+2]`, with the flag of the saturations. -/
def State.storeSat3 (rd : RegNo) (v0 v1 v2 : Int) (s : State) : State :=
  (s.noteSat (clips32 v0 || clips32 v1 || clips32 v2)).writeX3 rd (satWord v0) (satWord v1) (satWord v2)

/-- `α` of the forward Clarke transform before saturation (41_transform.md R261). -/
def clarkeAlpha (a b c : Int) : Int := rnd 30 ((2 * a - b - c) * k13)

/-- `β` of the forward Clarke transform before saturation (41_transform.md R261). -/
def clarkeBeta (b c : Int) : Int := rnd 30 ((b - c) * kis3)

/-- `b` of the inverse Clarke transform before saturation; `-α·2^29` is `-α/2` (41_transform.md R262). -/
def iclarkeB (al be : Int) : Int := rnd 30 (-al * 536870912 + be * ks32)

/-- `c` of the inverse Clarke transform before saturation (41_transform.md R262). -/
def iclarkeC (al be : Int) : Int := rnd 30 (-al * 536870912 - be * ks32)

/-- `d` of the Park transform before saturation: rotation by `-θ` (41_transform.md R263). -/
def parkD (al be : Int) (th : Word) : Int := rnd 30 (al * (sincos th).1 + be * (sincos th).2)

/-- `q` of the Park transform before saturation (41_transform.md R263). -/
def parkQ (al be : Int) (th : Word) : Int := rnd 30 (-al * (sincos th).2 + be * (sincos th).1)

/-- `α` of the inverse Park transform before saturation: rotation by `+θ` (41_transform.md R264). -/
def iparkAlpha (d q : Int) (th : Word) : Int := rnd 30 (d * (sincos th).1 - q * (sincos th).2)

/-- `β` of the inverse Park transform before saturation (41_transform.md R264). -/
def iparkBeta (d q : Int) (th : Word) : Int := rnd 30 (d * (sincos th).2 + q * (sincos th).1)

/-- `clarke xD, xA, xB, xC` (41_transform.md R261). -/
def execClarke (rd rs1 rs2 rs3 : RegNo) (s : State) : Exec :=
  whenLegal (spanFits rd 2) s
    (s.storeSat2 rd (clarkeAlpha (s.sx rs1) (s.sx rs2) (s.sx rs3)) (clarkeBeta (s.sx rs2) (s.sx rs3)))

/-- `iclarke xD, xA, xB` (41_transform.md R262). `a = α` cannot saturate. -/
def execIclarke (rd rs1 rs2 : RegNo) (s : State) : Exec :=
  whenLegal (spanFits rd 3) s
    (s.storeSat3 rd (s.sx rs1) (iclarkeB (s.sx rs1) (s.sx rs2)) (iclarkeC (s.sx rs1) (s.sx rs2)))

/-- `park xD, xA, xB, xT` (41_transform.md R263). -/
def execPark (rd rs1 rs2 rs3 : RegNo) (s : State) : Exec :=
  whenLegal (spanFits rd 2) s
    (s.storeSat2 rd (parkD (s.sx rs1) (s.sx rs2) (s.readX rs3)) (parkQ (s.sx rs1) (s.sx rs2) (s.readX rs3)))

/-- `ipark xD, xA, xB, xT` (41_transform.md R264). -/
def execIpark (rd rs1 rs2 rs3 : RegNo) (s : State) : Exec :=
  whenLegal (spanFits rd 2) s
    (s.storeSat2 rd (iparkAlpha (s.sx rs1) (s.sx rs2) (s.readX rs3))
      (iparkBeta (s.sx rs1) (s.sx rs2) (s.readX rs3)))

end Sys2Proof.Machine
end

