-- ==== Sys2Proof/Machine/Pll.lean ====
section
/-! DEFINITION. The phase-locked loop commands (44_pll.md R340-R342). -/

namespace Sys2Proof.Machine

/-- The voltage magnitude before its clip: `isqrt(va² + vb²)` (44_pll.md R341). -/
def pllMag (va vb : Int) : Int := (isqrt (va * va + vb * vb).toNat : Int)

/-- The integrator before `sat32`: clamped to `[WMIN - WFF, WMAX - WFF]` (44_pll.md R341). -/
def pllInteg (p : PllUnit) (err : Int) : Int :=
  clamp (sv p.integ + rnd 16 (sv p.ki * err)) (sv p.wmin - sv p.wff) (sv p.wmax - sv p.wff)

/-- The angular frequency, clamped to `[WMIN, WMAX]` (44_pll.md R341). -/
def pllOmega (p : PllUnit) (err it : Int) : Int :=
  clamp (sv p.wff + rnd 16 (sv p.kp * err) + it) (sv p.wmin) (sv p.wmax)

/-- The lock test, cross-multiplied: `|vq|/vm` below `LOCK_THR`, strictly (44_pll.md R341). -/
def pllGood (p : PllUnit) (vq vm : Int) : Bool := decide ((vq.natAbs : Int) * 65536 < sv p.lockThr * vm)

/-- The lock counter after an update: a good one counts up to `LOCK_N`, a bad one clears (44_pll.md R341). -/
def pllCount (p : PllUnit) (good : Bool) : BitVec 16 :=
  if good then BitVec.ofNat 16 (min (p.lcnt.toNat + 1) p.lockN.toNat) else 0

/-- One PLL update, `t = U(TS)` (44_pll.md R341). The Park step rotates by the estimate from before it. -/
def pllUpdate (p : PllUnit) (t va vb : Int) : PllUnit :=
  let vd := sat32 (parkD va vb p.theta)
  let vq := sat32 (parkQ va vb p.theta)
  let vm := sat32 (pllMag va vb)
  let err := sat32 (-vq)
  let it := sat32 (pllInteg p err)
  let w := pllOmega p err it
  { p with
    theta := BitVec.ofInt 32 (uv p.theta + angStep w t)
    omega := toWord w
    integ := toWord it
    vd := toWord vd
    vq := toWord vq
    vmag := toWord vm
    lcnt := pllCount p (pllGood p vq vm)
    lock := pllGood p vq vm && pllCount p (pllGood p vq vm) == p.lockN }

/-- Whether a PLL update sets `STATUS.SATF`: a Park output, the magnitude, the error or the integrator
saturates (44_pll.md R341). -/
def pllClips (p : PllUnit) (va vb : Int) : Bool :=
  let vq := sat32 (parkQ va vb p.theta)
  clips32 (parkD va vb p.theta) || clips32 (parkQ va vb p.theta) || clips32 (pllMag va vb)
    || clips32 (-vq) || clips32 (pllInteg p (sat32 (-vq)))

/-- `pll.upd xD, xA, xB` (44_pll.md R341). -/
def execPllUpd (rd rs1 rs2 : RegNo) (s : State) : Exec :=
  let p := pllUpdate s.pll (uv s.ts) (s.sx rs1) (s.sx rs2)
  whenLegal (spanFits rd 2) s
    (((s.noteSat (pllClips s.pll (s.sx rs1) (s.sx rs2))).setPll p).writeX2 rd p.theta p.omega)

/-- `pll.rst` (44_pll.md R342): `VD`, `VQ`, `VMAG` and configuration are kept. -/
def execPllRst (s : State) : Exec :=
  .next (s.setPll { s.pll with theta := 0, omega := s.pll.wff, integ := 0, lock := false, lcnt := 0 })

end Sys2Proof.Machine
end

