-- ==== Sys2Proof/Machine/Pr.lean ====
section
/-! DEFINITION. The PR regulator commands (43_pr.md R310-R313). -/

namespace Sys2Proof.Machine

/-- The new delay-line value `wn` before `sat64` (43_pr.md R311). -/
def prNewState (p : PrUnit) (e : Int) : Int :=
  e * 65536 - rnd 30 (sv p.a1 * cv p.w1 + sv p.a2 * cv p.w2)

/-- The resonant output `y` before `sat32` (43_pr.md R311). -/
def prResonant (p : PrUnit) (wn : Int) : Int :=
  rnd 46 (sv p.b0 * wn + sv p.b1 * cv p.w1 + sv p.b2 * cv p.w2)

/-- A PR update that has chosen its output; the delay line shifts in every case (43_pr.md R311). -/
def prStore (p : PrUnit) (wn u : Int) (sat : Bool) : PrUnit :=
  { p with w1 := toCell wn, w2 := p.w1, out := toWord u, sat := sat }

/-- One PR update and whether it sets `STATUS.SATF` (43_pr.md R311). -/
def prUpdate (p : PrUnit) (ref fb : Int) : PrUnit × Bool :=
  let e := sat32 (ref - fb)
  let wn := sat64 (prNewState p e)
  let y := sat32 (prResonant p wn)
  let ut := rnd 16 (sv p.kp * e) + rnd 16 (sv p.kr * y)
  let clipped := clips32 (ref - fb) || clips64 (prNewState p e) || clips32 (prResonant p wn)
  if ut > sv p.umax then (prStore p wn (sv p.umax) true, clipped)
  else if ut < sv p.umin then (prStore p wn (sv p.umin) true, clipped)
  else (prStore p wn ut false, clipped)

/-- `phi`, `w0·Ts/2` in `ANG` units (43_pr.md R313). -/
def prPhi (w0 t : Int) : Int := rnd 65 (w0 * t * kr2b)

/-- `C2`, `cos²(w0·Ts/2)` in Q2.30 (43_pr.md R313). -/
def prCos2 (w0 t : Int) : Int :=
  rnd 30 ((sincos (BitVec.ofInt 32 (prPhi w0 t))).1 * (sincos (BitVec.ofInt 32 (prPhi w0 t))).1)

/-- `m`, `wc·Ts·cos²` in Q2.30 (43_pr.md R313). -/
def prM (wc w0 t : Int) : Int := rnd 30 (2 * rnd 19 (wc * t) * prCos2 w0 t)

/-- `den = 1 + wc·Ts·cos²` in Q2.30 (43_pr.md R313). -/
def prDen (wc w0 t : Int) : Int := one30 + prM wc w0 t

/-- `B0` before `sat32` (43_pr.md R313). -/
def prB0 (wc w0 t : Int) : Int := divt (prM wc w0 t * one30) (prDen wc w0 t)

/-- `A1` before `sat32` (43_pr.md R313). -/
def prA1 (wc w0 t : Int) : Int := divt (-2 * (2 * prCos2 w0 t - one30) * one30) (prDen wc w0 t)

/-- `A2` before `sat32` (43_pr.md R313). -/
def prA2 (wc w0 t : Int) : Int := divt ((one30 - prM wc w0 t) * one30) (prDen wc w0 t)

/-- The instance tuned to `w0`: the coefficients and `W0`; the delay line, `OUT` and `SAT` are not touched
(43_pr.md R313). -/
def prTuned (p : PrUnit) (t w0 : Int) : PrUnit :=
  { p with
    b0 := toWord (sat32 (prB0 (sv p.wc) w0 t))
    b1 := 0
    b2 := toWord (sat32 (-sat32 (prB0 (sv p.wc) w0 t)))
    a1 := toWord (sat32 (prA1 (sv p.wc) w0 t))
    a2 := toWord (sat32 (prA2 (sv p.wc) w0 t))
    w0 := toWord w0 }

/-- Whether tuning to `w0` sets `STATUS.SATF`: a coefficient saturates (43_pr.md R313). -/
def prTuneClips (p : PrUnit) (t w0 : Int) : Bool :=
  clips32 (prB0 (sv p.wc) w0 t) || clips32 (-sat32 (prB0 (sv p.wc) w0 t))
    || clips32 (prA1 (sv p.wc) w0 t) || clips32 (prA2 (sv p.wc) w0 t)

/-- `pr.upd xD, xR, xF, #j` (43_pr.md R311). -/
def execPrUpd (rd rs1 rs2 : RegNo) (j : InstNo) (s : State) : Exec :=
  onPr j s fun i =>
    let r := prUpdate s.pr[i] (s.sx rs1) (s.sx rs2)
    ((s.noteSat r.2).setPr i r.1).writeX rd r.1.out

/-- `pr.rst #j` (43_pr.md R312): the coefficients, `W0` and configuration are kept. -/
def execPrRst (j : InstNo) (s : State) : Exec :=
  onPr j s fun i => s.setPr i { s.pr[i] with w1 := 0, w2 := 0, out := 0, sat := false }

/-- `pr.setf xW, #j` (43_pr.md R313): ARGERR alone when `den <= 0` (60_exceptions.md R432). -/
def execPrSetf (rs1 : RegNo) (j : InstNo) (s : State) : Exec :=
  onPr j s fun i =>
    if prDen (sv s.pr[i].wc) (s.sx rs1) (uv s.ts) ≤ 0 then s.raise .argerr
    else (s.noteSat (prTuneClips s.pr[i] (uv s.ts) (s.sx rs1))).setPr i
      (prTuned s.pr[i] (uv s.ts) (s.sx rs1))

end Sys2Proof.Machine
end

