-- ==== Sys2Proof/Machine/Prot.lean ====
section
/-! DEFINITION. The protection manager commands (46_protection.md R400-R403). -/

namespace Sys2Proof.Machine

/-- The largest phase-current magnitude, unbounded: `|-2^31| = 2^31` (46_protection.md R401). -/
def peakCurrent (ia ib ic : Int) : Int := (max ia.natAbs (max ib.natAbs ic.natAbs) : Nat)

/-- Debounce of one fault class: its counter after the call, and whether it is confirmed
(46_protection.md R401). -/
def debounce (raw : Bool) (cnt limit : BitVec 16) : BitVec 16 × Bool :=
  if raw then
    if cnt.toNat < limit.toNat then (cnt + 1, false) else (cnt, true)
  else (0, false)

/-- The five measured quantities of a protection update (46_protection.md R401). -/
structure Sample where
  ia : Int
  ib : Int
  ic : Int
  vdc : Int
  temp : Int
  deriving DecidableEq, Repr

/-- The sample in `X[rs1]`..`X[rs1+4]` (46_protection.md R401). -/
def State.sample (s : State) (rs1 : RegNo) : Sample :=
  ⟨s.sx rs1, s.sx (rs1 + 1), s.sx (rs1 + 2), s.sx (rs1 + 3), s.sx (rs1 + 4)⟩

/-- Over-current, `raw[0]`, strict (46_protection.md R401). -/
def rawOc (p : ProtUnit) (m : Sample) : Bool := decide (peakCurrent m.ia m.ib m.ic > sv p.imax)

/-- DC over-voltage, `raw[1]`, strict (46_protection.md R401). -/
def rawOv (p : ProtUnit) (m : Sample) : Bool := decide (m.vdc > sv p.vdcmax)

/-- DC under-voltage, `raw[2]`, strict (46_protection.md R401). -/
def rawUv (p : ProtUnit) (m : Sample) : Bool := decide (m.vdc < sv p.vdcmin)

/-- Over-temperature, `raw[3]`, strict (46_protection.md R401). -/
def rawOt (p : ProtUnit) (m : Sample) : Bool := decide (m.temp > sv p.tmax)

/-- A mask with bit 0..3 as given, in the order of the fault bits (10_state.md R92). -/
def faultMask (oc ov uv ot : Bool) : BitVec 8 :=
  (if oc then 1 else 0) ||| (if ov then 2 else 0) ||| (if uv then 4 else 0) ||| (if ot then 8 else 0)

/-- One protection update (46_protection.md R401): `ACTIVE` is replaced, so bits 7:4 become 0, and the
confirmed mask is ored into `LATCHED`. -/
def protUpdate (p : ProtUnit) (m : Sample) : ProtUnit :=
  let oc := debounce (rawOc p m) p.cntOc p.debounce
  let ov := debounce (rawOv p m) p.cntOv p.debounce
  let uv := debounce (rawUv p m) p.cntUv p.debounce
  let ot := debounce (rawOt p m) p.cntOt p.debounce
  let conf := faultMask oc.2 ov.2 uv.2 ot.2
  { p with
    active := conf
    latched := p.latched ||| conf
    trig := p.trig || conf != 0
    cntOc := oc.1
    cntOv := ov.1
    cntUv := uv.1
    cntOt := ot.1 }

/-- `prot.upd xD, xA` (46_protection.md R401): the result is the confirmed mask, bits 31:4 zero. -/
def execProtUpd (rd rs1 : RegNo) (s : State) : Exec :=
  let p := protUpdate s.prot (s.sample rs1)
  whenLegal (spanFits rs1 5) s ((s.setProt p).writeX rd (p.active.zeroExtend 32))

/-- `prot.clr` (46_protection.md R402): the thresholds and `DEBOUNCE` are kept. -/
def execProtClr (s : State) : Exec :=
  .next (s.setProt { s.prot with
    active := 0, latched := 0, trig := false, cntOc := 0, cntOv := 0, cntUv := 0, cntOt := 0 })

/-- `prot.set xM` (46_protection.md R403): bits 7:0 of the operand are ored in, bits 31:8 are ignored. -/
def execProtSet (rs1 : RegNo) (s : State) : Exec :=
  let m := (s.readX rs1).extractLsb' 0 8
  .next (s.setProt { s.prot with
    active := s.prot.active ||| m, latched := s.prot.latched ||| m, trig := s.prot.trig || m != 0 })

end Sys2Proof.Machine
end

