-- ==== Sys2Proof/Machine/Svm.lean ====
section
/-! DEFINITION. The space-vector modulator commands (45_svm.md R370-R374). -/

namespace Sys2Proof.Machine

/-- A component normalised by the bus voltage, before `sat32` (45_svm.md R371). -/
def svmNorm (v vdc : Int) : Int := divt (v * 65536) vdc

/-- The sector code `N = A + 2·B + 4·C` of a normalised vector (45_svm.md R371). -/
def svmSector (an bn : Int) : Nat :=
  let s3a := rnd 30 (an * ks3)
  (if bn > 0 then 1 else 0) + (if s3a - bn > 0 then 2 else 0) + (if -s3a - bn > 0 then 4 else 0)

/-- `X` before `sat32` (45_svm.md R371). -/
def svmX (bn : Int) : Int := rnd 30 (bn * ks3)

/-- `Y` before `sat32` (45_svm.md R371). -/
def svmY (an bn : Int) : Int := rnd 30 (bn * ks32 + an * k32)

/-- `Z` before `sat32` (45_svm.md R371). -/
def svmZ (an bn : Int) : Int := rnd 30 (bn * ks32 - an * k32)

/-- The dwell table: `(t1, t2)` of a sector code (45_svm.md R372). Code 0 is the zero vector; code 7
cannot occur (R371; log entry 6). -/
def dwell (n : Nat) (x y z : Int) : Int × Int :=
  match n with
  | 3 => (-z, x)
  | 1 => (z, y)
  | 5 => (x, -y)
  | 4 => (-x, z)
  | 6 => (-y, -z)
  | 2 => (y, -x)
  | _ => (0, 0)

/-- The over-modulation rescale: a sum above 1 becomes exactly 1 (45_svm.md R371). -/
def rescale (t : Int × Int) : Int × Int :=
  if t.1 + t.2 > one then (divt (t.1 * one) (t.1 + t.2), one - divt (t.1 * one) (t.1 + t.2)) else t

/-- The three duties of a modulation. -/
structure Duties where
  a : Int
  b : Int
  c : Int
  deriving DecidableEq, Repr

/-- The duty table (45_svm.md R373); `h` is half the zero-vector time. -/
def dutyTable (n : Nat) (t1 t2 h : Int) : Duties :=
  match n with
  | 3 => ⟨t1 + t2 + h, t2 + h, h⟩
  | 1 => ⟨t2 + h, t1 + t2 + h, h⟩
  | 5 => ⟨h, t1 + t2 + h, t2 + h⟩
  | 4 => ⟨h, t2 + h, t1 + t2 + h⟩
  | 6 => ⟨t2 + h, h, t1 + t2 + h⟩
  | 2 => ⟨t1 + t2 + h, h, t2 + h⟩
  | _ => ⟨h, h, h⟩

/-- The duties of a sector from its dwell times, clamped to `[0, ONE]` (45_svm.md R371). -/
def svmDuties (n : Nat) (x y z : Int) : Duties :=
  let t := rescale (dwell n x y z)
  let d := dutyTable n t.1 t.2 (asr (one - t.1 - t.2) 1)
  ⟨clamp d.a 0 one, clamp d.b 0 one, clamp d.c 0 one⟩

/-- One modulation for `vdc > 0`: the duties and the sector (45_svm.md R371). -/
def svmCompute (va vb vdc : Int) : SvmUnit :=
  let an := sat32 (svmNorm va vdc)
  let bn := sat32 (svmNorm vb vdc)
  let n := svmSector an bn
  let d := svmDuties n (sat32 (svmX bn)) (sat32 (svmY an bn)) (sat32 (svmZ an bn))
  ⟨toWord d.a, toWord d.b, toWord d.c, BitVec.ofNat 3 n⟩

/-- Whether a modulation sets `STATUS.SATF`: `an`, `bn`, `X`, `Y` or `Z` saturates (45_svm.md R371). -/
def svmClips (va vb vdc : Int) : Bool :=
  let an := sat32 (svmNorm va vdc)
  let bn := sat32 (svmNorm vb vdc)
  clips32 (svmNorm va vdc) || clips32 (svmNorm vb vdc)
    || clips32 (svmX bn) || clips32 (svmY an bn) || clips32 (svmZ an bn)

/-- `svm.calc xD, xA, xB, xV` (45_svm.md R371): ARGERR alone when `vdc <= 0` (60_exceptions.md R432). -/
def execSvmCalc (rd rs1 rs2 rs3 : RegNo) (s : State) : Exec :=
  let u := svmCompute (s.sx rs1) (s.sx rs2) (s.sx rs3)
  whenLegal (spanFits rd 3) s
    (if s.sx rs3 ≤ 0 then s.raise .argerr
      else ((s.noteSat (svmClips (s.sx rs1) (s.sx rs2) (s.sx rs3))).setSvm u).writeX3 rd u.dutyA u.dutyB u.dutyC)

/-- `svm.mid` (45_svm.md R374): the zero-voltage midpoint. -/
def execSvmMid (s : State) : Exec := .next (s.setSvm ⟨0x8000, 0x8000, 0x8000, 0⟩)

end Sys2Proof.Machine
end

