-- ==== Sys2Proof/Machine/Dispatch.lean ====
section
/-! DEFINITION. One arm per command of spec/opcode_table.json (30_encoding.md R176), each a direct call of its
meaning. -/

namespace Sys2Proof.Machine

def exec (i : Instr) (s : State) : Host.Outcome State Fault Refusal :=
  match i with
  | .clarke rd rs1 rs2 rs3 => Sys2Proof.Machine.execClarke rd rs1 rs2 rs3 s
  | .iclarke rd rs1 rs2 => Sys2Proof.Machine.execIclarke rd rs1 rs2 s
  | .park rd rs1 rs2 rs3 => Sys2Proof.Machine.execPark rd rs1 rs2 rs3 s
  | .ipark rd rs1 rs2 rs3 => Sys2Proof.Machine.execIpark rd rs1 rs2 rs3 s
  | .piUpd rd rs1 rs2 k => Sys2Proof.Machine.execPiUpd rd rs1 rs2 k s
  | .piRst k => Sys2Proof.Machine.execPiRst k s
  | .prUpd rd rs1 rs2 j => Sys2Proof.Machine.execPrUpd rd rs1 rs2 j s
  | .prRst j => Sys2Proof.Machine.execPrRst j s
  | .prSetf rs1 j => Sys2Proof.Machine.execPrSetf rs1 j s
  | .pllUpd rd rs1 rs2 => Sys2Proof.Machine.execPllUpd rd rs1 rs2 s
  | .pllRst => Sys2Proof.Machine.execPllRst s
  | .svmCalc rd rs1 rs2 rs3 => Sys2Proof.Machine.execSvmCalc rd rs1 rs2 rs3 s
  | .svmMid => Sys2Proof.Machine.execSvmMid s
  | .protUpd rd rs1 => Sys2Proof.Machine.execProtUpd rd rs1 s
  | .protClr => Sys2Proof.Machine.execProtClr s
  | .protSet rs1 => Sys2Proof.Machine.execProtSet rs1 s

end Sys2Proof.Machine
end

