-- ==== Sys2Proof/Machine/RegMap.lean ====
section
/-! DEFINITION. The register map of the window (20_memory.md R134, R138): which register stands at an
offset, its access type, what it reads as and what a host write does to it. -/

namespace Sys2Proof.Machine

/-- The registers of a PI block (10_state.md R48-R55). -/
inductive PiReg where
  | kp | ki | umax | umin | integ | perr | out | flags
  deriving DecidableEq, Repr

/-- The registers of a PR block (10_state.md R56-R66); the cells are two words each (R64). -/
inductive PrReg where
  | kp | kr | wc | umax | umin | w0 | b0 | b1 | b2 | a1 | a2 | w1Lo | w1Hi | w2Lo | w2Hi | out | flags
  deriving DecidableEq, Repr

/-- The registers of the PLL block (10_state.md R67-R80). -/
inductive PllReg where
  | kp | ki | wff | wmin | wmax | lockThr | lockN | theta | omega | integ | vd | vq | vmag | lstat
  deriving DecidableEq, Repr

/-- The registers of the SVM block (10_state.md R81, R82). -/
inductive SvmReg where
  | dutyA | dutyB | dutyC | sector
  deriving DecidableEq, Repr

/-- The registers of the protection block (10_state.md R83-R91). -/
inductive ProtReg where
  | imax | vdcmax | vdcmin | tmax | debounce | active | latched | trig | cntOc | cntOv | cntUv | cntOt
  deriving DecidableEq, Repr

/-- A register of the window, or none (20_memory.md R138). -/
inductive WinReg where
  | id
  | ctrl
  | status
  | cmd
  | ts
  | x (n : RegNo)
  | pi (k : Fin 4) (r : PiReg)
  | pr (j : Fin 2) (r : PrReg)
  | pll (r : PllReg)
  | svm (r : SvmReg)
  | prot (r : ProtReg)
  | unmapped
  deriving DecidableEq, Repr

/-- The register at a word of a PI block (20_memory.md R138, `+0x00`..`+0x1C`). -/
def piRegAt (word : Nat) : PiReg :=
  match word with
  | 0 => .kp
  | 1 => .ki
  | 2 => .umax
  | 3 => .umin
  | 4 => .integ
  | 5 => .perr
  | 6 => .out
  | _ => .flags

/-- The register at a word of a PR block; its tail `+0x44`..`+0x7F` is unmapped (20_memory.md R138). -/
def prRegAt (word : Nat) : Option PrReg :=
  match word with
  | 0 => some .kp
  | 1 => some .kr
  | 2 => some .wc
  | 3 => some .umax
  | 4 => some .umin
  | 5 => some .w0
  | 6 => some .b0
  | 7 => some .b1
  | 8 => some .b2
  | 9 => some .a1
  | 10 => some .a2
  | 11 => some .w1Lo
  | 12 => some .w1Hi
  | 13 => some .w2Lo
  | 14 => some .w2Hi
  | 15 => some .out
  | 16 => some .flags
  | _ => none

/-- The register at an offset of the window, outside the blocks that repeat (20_memory.md R138). -/
def singleRegAt (off : Nat) : WinReg :=
  match off with
  | 0x000 => .id
  | 0x004 => .ctrl
  | 0x008 => .status
  | 0x00C => .cmd
  | 0x010 => .ts
  | 0x300 => .pll .kp
  | 0x304 => .pll .ki
  | 0x308 => .pll .wff
  | 0x30C => .pll .wmin
  | 0x310 => .pll .wmax
  | 0x314 => .pll .lockThr
  | 0x318 => .pll .lockN
  | 0x320 => .pll .theta
  | 0x324 => .pll .omega
  | 0x328 => .pll .integ
  | 0x32C => .pll .vd
  | 0x330 => .pll .vq
  | 0x334 => .pll .vmag
  | 0x338 => .pll .lstat
  | 0x380 => .svm .dutyA
  | 0x384 => .svm .dutyB
  | 0x388 => .svm .dutyC
  | 0x38C => .svm .sector
  | 0x400 => .prot .imax
  | 0x404 => .prot .vdcmax
  | 0x408 => .prot .vdcmin
  | 0x40C => .prot .tmax
  | 0x410 => .prot .debounce
  | 0x420 => .prot .active
  | 0x424 => .prot .latched
  | 0x428 => .prot .trig
  | 0x42C => .prot .cntOc
  | 0x430 => .prot .cntOv
  | 0x434 => .prot .cntUv
  | 0x438 => .prot .cntOt
  | _ => .unmapped

/-- The register at a word-aligned offset of the window (20_memory.md R138): `X0`..`X15` from `0x040`, the
PI blocks from `0x100` every `0x20`, the PR blocks from `0x200` every `0x80`. -/
def regAt (off : Nat) : WinReg :=
  if 0x040 ≤ off ∧ off < 0x080 then .x (BitVec.ofNat 4 ((off - 0x040) / 4))
  else if 0x100 ≤ off ∧ off < 0x180 then
    .pi (Fin.ofNat 4 ((off - 0x100) / 0x20)) (piRegAt ((off - 0x100) % 0x20 / 4))
  else if 0x200 ≤ off ∧ off < 0x300 then
    match prRegAt ((off - 0x200) % 0x80 / 4) with
    | some r => .pr (Fin.ofNat 2 ((off - 0x200) / 0x80)) r
    | none => .unmapped
  else singleRegAt off

/-- The access types (20_memory.md R134). -/
inductive Access where
  | rw | cfg | ro | wo | w1c | razWi
  deriving DecidableEq, Repr

/-- Whether a register of a PI block is configuration (10_state.md R48-R55). -/
def PiReg.isCfg : PiReg → Bool
  | .kp | .ki | .umax | .umin => true
  | .integ | .perr | .out | .flags => false

/-- Whether a register of a PR block is configuration (10_state.md R56-R66). -/
def PrReg.isCfg : PrReg → Bool
  | .kp | .kr | .wc | .umax | .umin => true
  | .w0 | .b0 | .b1 | .b2 | .a1 | .a2 | .w1Lo | .w1Hi | .w2Lo | .w2Hi | .out | .flags => false

/-- Whether a register of the PLL block is configuration (10_state.md R67-R80). -/
def PllReg.isCfg : PllReg → Bool
  | .kp | .ki | .wff | .wmin | .wmax | .lockThr | .lockN => true
  | .theta | .omega | .integ | .vd | .vq | .vmag | .lstat => false

/-- Whether a register of the protection block is configuration (10_state.md R83-R91). -/
def ProtReg.isCfg : ProtReg → Bool
  | .imax | .vdcmax | .vdcmin | .tmax | .debounce => true
  | .active | .latched | .trig | .cntOc | .cntOv | .cntUv | .cntOt => false

/-- The access type of a register (20_memory.md R138, column access). `CTRL` is `RW` with the field rules
of 10_state.md R44; `STATUS` is `W1C` in bits 3:0. -/
def WinReg.access : WinReg → Access
  | .id => .ro
  | .ctrl => .rw
  | .status => .w1c
  | .cmd => .wo
  | .ts => .cfg
  | .x _ => .rw
  | .pi _ r => if r.isCfg then .cfg else .ro
  | .pr _ r => if r.isCfg then .cfg else .ro
  | .pll r => if r.isCfg then .cfg else .ro
  | .svm _ => .ro
  | .prot r => if r.isCfg then .cfg else .ro
  | .unmapped => .razWi

/-- What a register of a PI block reads as; bits it lacks read 0 (20_memory.md R135). -/
def readPi (p : PiUnit) : PiReg → Word
  | .kp => p.kp
  | .ki => p.ki
  | .umax => p.umax
  | .umin => p.umin
  | .integ => p.integ
  | .perr => p.perr
  | .out => p.out
  | .flags => flagAt p.sat 0

/-- What a register of a PR block reads as (20_memory.md R135); the `_LO` word of a cell is its bits 31:0
and the `_HI` word its bits 63:32 (10_state.md R64). -/
def readPr (p : PrUnit) : PrReg → Word
  | .kp => p.kp
  | .kr => p.kr
  | .wc => p.wc
  | .umax => p.umax
  | .umin => p.umin
  | .w0 => p.w0
  | .b0 => p.b0
  | .b1 => p.b1
  | .b2 => p.b2
  | .a1 => p.a1
  | .a2 => p.a2
  | .w1Lo => p.w1.extractLsb' 0 32
  | .w1Hi => p.w1.extractLsb' 32 32
  | .w2Lo => p.w2.extractLsb' 0 32
  | .w2Hi => p.w2.extractLsb' 32 32
  | .out => p.out
  | .flags => flagAt p.sat 0

/-- What a register of the PLL block reads as (20_memory.md R135). -/
def readPll (p : PllUnit) : PllReg → Word
  | .kp => p.kp
  | .ki => p.ki
  | .wff => p.wff
  | .wmin => p.wmin
  | .wmax => p.wmax
  | .lockThr => p.lockThr
  | .lockN => p.lockN.zeroExtend 32
  | .theta => p.theta
  | .omega => p.omega
  | .integ => p.integ
  | .vd => p.vd
  | .vq => p.vq
  | .vmag => p.vmag
  | .lstat => lstatWord p

/-- What a register of the SVM block reads as (20_memory.md R135). -/
def readSvm (p : SvmUnit) : SvmReg → Word
  | .dutyA => p.dutyA
  | .dutyB => p.dutyB
  | .dutyC => p.dutyC
  | .sector => p.sector.zeroExtend 32

/-- What a register of the protection block reads as (20_memory.md R135). -/
def readProt (p : ProtUnit) : ProtReg → Word
  | .imax => p.imax
  | .vdcmax => p.vdcmax
  | .vdcmin => p.vdcmin
  | .tmax => p.tmax
  | .debounce => p.debounce.zeroExtend 32
  | .active => p.active.zeroExtend 32
  | .latched => p.latched.zeroExtend 32
  | .trig => flagAt p.trig 0
  | .cntOc => p.cntOc.zeroExtend 32
  | .cntOv => p.cntOv.zeroExtend 32
  | .cntUv => p.cntUv.zeroExtend 32
  | .cntOt => p.cntOt.zeroExtend 32

/-- `ID`, at all times (10_state.md R43). -/
def idWord : Word := 0x43505431

/-- The data of a read of a register (20_memory.md R135). -/
def State.readReg (r : WinReg) (s : State) : Word :=
  match r with
  | .id => idWord
  | .ctrl => flagAt s.cfgLock 0
  | .status => s.statusWord
  | .cmd => 0
  | .ts => s.ts
  | .x n => s.readX n
  | .pi k r => readPi s.pi[k] r
  | .pr j r => readPr s.pr[j] r
  | .pll r => readPll s.pll r
  | .svm r => readSvm s.svm r
  | .prot r => readProt s.prot r
  | .unmapped => 0

/-- A PI block with a configuration register stored (10_state.md R48-R51). -/
def storePi (r : PiReg) (v : Word) (p : PiUnit) : PiUnit :=
  match r with
  | .kp => { p with kp := v }
  | .ki => { p with ki := v }
  | .umax => { p with umax := v }
  | .umin => { p with umin := v }
  | .integ | .perr | .out | .flags => p

/-- A PR block with a configuration register stored (10_state.md R56-R60). -/
def storePr (r : PrReg) (v : Word) (p : PrUnit) : PrUnit :=
  match r with
  | .kp => { p with kp := v }
  | .kr => { p with kr := v }
  | .wc => { p with wc := v }
  | .umax => { p with umax := v }
  | .umin => { p with umin := v }
  | .w0 | .b0 | .b1 | .b2 | .a1 | .a2 | .w1Lo | .w1Hi | .w2Lo | .w2Hi | .out | .flags => p

/-- The PLL block with a configuration register stored; `LOCK_N` keeps bits 15:0 (10_state.md R67-R73). -/
def storePll (r : PllReg) (v : Word) (p : PllUnit) : PllUnit :=
  match r with
  | .kp => { p with kp := v }
  | .ki => { p with ki := v }
  | .wff => { p with wff := v }
  | .wmin => { p with wmin := v }
  | .wmax => { p with wmax := v }
  | .lockThr => { p with lockThr := v }
  | .lockN => { p with lockN := v.extractLsb' 0 16 }
  | .theta | .omega | .integ | .vd | .vq | .vmag | .lstat => p

/-- The protection block with a configuration register stored; `DEBOUNCE` keeps bits 15:0
(10_state.md R83-R87). -/
def storeProt (r : ProtReg) (v : Word) (p : ProtUnit) : ProtUnit :=
  match r with
  | .imax => { p with imax := v }
  | .vdcmax => { p with vdcmax := v }
  | .vdcmin => { p with vdcmin := v }
  | .tmax => { p with tmax := v }
  | .debounce => { p with debounce := v.extractLsb' 0 16 }
  | .active | .latched | .trig | .cntOc | .cntOv | .cntUv | .cntOt => p

/-- Store a word into a `CFG` register, masked to its field (20_memory.md R136). -/
def State.storeCfg (r : WinReg) (v : Word) (s : State) : State :=
  match r with
  | .ts => { s with ts := v }
  | .pi k r => s.setPi k (storePi r v s.pi[k])
  | .pr j r => s.setPr j (storePr r v s.pr[j])
  | .pll r => s.setPll (storePll r v s.pll)
  | .prot r => s.setProt (storeProt r v s.prot)
  | .id | .ctrl | .status | .cmd | .x _ | .svm _ | .unmapped => s

/-- A write to a `CFG` register: refused with WLOCK while `CFG_LOCK = 1` (20_memory.md R134;
60_exceptions.md R434). -/
def State.writeCfg (r : WinReg) (v : Word) (s : State) : State :=
  if s.cfgLock then s.raise .wlock else s.storeCfg r v

/-- The effect of a host write on a register other than `CMD` (20_memory.md R136). -/
def State.writeReg (r : WinReg) (v : Word) (s : State) : State :=
  match r with
  | .ctrl => s.writeCtrl v
  | .status => s.clearStatus v
  | .x n => s.writeX n v
  | .id | .cmd | .svm _ | .unmapped => s
  | .ts | .pi _ _ | .pr _ _ | .pll _ | .prot _ => if r.access = .cfg then s.writeCfg r v else s

/-- The byte at a window offset, for a host that views the window as bytes: lane `i` of a word carries its
bits `8i+7:8i` (20_memory.md R132). -/
def State.windowByte (off : Nat) (s : State) : Byte :=
  (s.readReg (regAt (off - off % 4))).extractLsb' (8 * (off % 4)) 8

end Sys2Proof.Machine
end

