-- ==== Sys2Proof/Machine/Bus.lean ====
section
/-! DEFINITION. The host port (20_memory.md R133-R137): one read, one write, the execution of a command
word, and one event of the host. -/

namespace Sys2Proof.Machine

/-- The only legal access: one 32-bit word at an offset that is a multiple of 4 (20_memory.md R133). -/
def legalAccess (off : BitVec 12) (n : Nat) : Bool := n == 4 && off.toNat % 4 == 0

/-- `Execute(w)` (20_memory.md R137): the command a legal word stands for, or ILL (60_exceptions.md R431). -/
def execute (w : Word) (s : State) : Exec :=
  match decode w with
  | .ok i => exec i s
  | .error _ => .next (s.raise .ill)

/-- `MemRead(a, n)` (20_memory.md R135): no effect but the answer of the port. -/
def memRead (off : BitVec 12) (n : Nat) (s : State) : State :=
  if legalAccess off n then s.respond (.data (s.readReg (regAt off.toNat))) else s.respond .busError

/-- `MemWrite(a, n, v)` (20_memory.md R136). -/
def memWrite (off : BitVec 12) (n : Nat) (v : Word) (s : State) : Exec :=
  if legalAccess off n then
    match regAt off.toNat with
    | .cmd => execute v (s.respond .okay)
    | r => .next ((s.writeReg r v).respond .okay)
  else .next (s.respond .busError)

/-- One event of the host: a transaction of the window, one that is not addressed to the core and so has
no effect on it (20_memory.md R131), or the reset event (70_reset_and_hazards.md R470). -/
def hostEvent (e : HostEvent) (s : State) : Exec :=
  match e with
  | .read (.window off) n => .next (memRead off n s)
  | .read (.outside _) _ => .next (s.respond .silent)
  | .write (.window off) n v => memWrite off n v s
  | .write (.outside _) _ _ => .next (s.respond .silent)
  | .reset => .next s.resetEvent

/-- The next event the host issues, and the state from which it takes effect: events take effect one at a
time, in the order issued (20_memory.md R141). -/
def State.takeEvent (s : State) : Option (HostEvent × State) :=
  match s.pending with
  | [] => none
  | e :: rest => some (e, { s with pending := rest })

/-- The window offset of `CMD` (10_state.md R46). -/
def cmdOffset : BitVec 12 := 0x00C

/-- The host's write of a command word to `CMD` (30_encoding.md R182, `cmd`). -/
def cmdWrite (w : Word) : HostEvent := .write (.window cmdOffset) 4 w

/-- The bus stall of a command, `CMD_LATENCY` cycles: a function of the opcode alone, which no rule reads
(70_reset_and_hazards.md R482). Log entry 4. -/
def stallCycles (i : Instr) : Nat := Config.cmdLatency i.opcode

end Sys2Proof.Machine
end

