-- ==== Sys2Proof/Machine/Step.lean ====
section
/-! DEFINITION. One step of the machine: one host-bus transaction (00_scope.md R13; 10_state.md R41). -/

namespace Sys2Proof.Machine

/-- One step: the next event of the host. While the host issues nothing, the core keeps all its state
(60_exceptions.md R446); log entry 1. -/
def step (s : State) : Host.Outcome State Fault Refusal :=
  match s.takeEvent with
  | none => .next s
  | some (e, s') => hostEvent e s'

/-- `s` with a write of the command word to `CMD` as the next thing the host issues: the core fetches
nothing (10_state.md R41), so a command comes to it in this way only. Log entry 1. -/
def State.withFetchWord (s : State) (nbits w : Nat) : State :=
  { s with pending := cmdWrite (tableWord nbits w) :: s.pending }

end Sys2Proof.Machine
end

