-- ==== Sys2Proof/Safety.lean ====
section
/-! DEFINITION. What counts as a safe run of the core, in the terms the claims use: the invariant every
step keeps, configuration as the host sees it, and runs of one command. -/

namespace Sys2Proof.Machine

/-- The coefficients of a tuned or untuned PR instance: `B1` is 0 and `B2` is the negation of `B0`, up to
the outer `sat32` (10_state.md R62; 43_pr.md R313). -/
def PrUnit.coeffsAgree (p : PrUnit) : Prop := p.b1 = 0 ∧ sv p.b2 = sat32 (-sv p.b0)

/-- The invariant of the core. -/
structure State.Inv (s : State) : Prop where
  /-- `LATCHED ⊇ ACTIVE` (46_protection.md R404 item 1). -/
  latchedCoversActive : s.prot.latched &&& s.prot.active = s.prot.active
  /-- `TRIG = 1` exactly when `LATCHED != 0` (46_protection.md R404 item 6). -/
  trigIffLatched : s.prot.trig = (s.prot.latched != 0)
  /-- The duties lie in `[0, ONE]` (10_state.md R81; 45_svm.md R375 item 1). -/
  dutiesInRange : s.svm.dutyA.toNat ≤ 65536 ∧ s.svm.dutyB.toNat ≤ 65536 ∧ s.svm.dutyC.toNat ≤ 65536
  /-- The sector code is one of 0..6 (10_state.md R82; 45_svm.md R371). -/
  sectorLegal : s.svm.sector.toNat ≤ 6
  /-- `VMAG` is never negative (10_state.md R79). -/
  vmagNonneg : 0 ≤ sv s.pll.vmag
  /-- The PR coefficients (10_state.md R62). -/
  prCoeffs : ∀ j : Fin 2, s.pr[j].coeffsAgree

/-- Every configuration register reads the same in both states (20_memory.md R134, type `CFG`). -/
def sameConfig (s t : State) : Prop := ∀ r : WinReg, r.access = .cfg → t.readReg r = s.readReg r

/-- One command `n` times in a row, nothing between. -/
def repeatExec (i : Instr) : Nat → State → Exec
  | 0, s => .next s
  | n + 1, s =>
    match exec i s with
    | .next t => repeatExec i n t
    | .fault r => .fault r
    | .refused r => .refused r

/-- The data registers of `t` are those of `s` but for the listed writes. -/
def xAfter (s t : State) (writes : List (RegNo × Word)) : Prop :=
  ∀ r : RegNo, t.readX r = (writes.lookup r).getD (s.readX r)

end Sys2Proof.Machine
end

