-- ==== Sys2Proof/Certificates/Slice0/Obligations.lean ====
section
/-! DEFINITION. The statements for the provers, in terms of the core's own names. Each docstring says
which rule of spec/ it rests on. -/

open Sys2Proof Sys2Proof.Machine

/-! ### Encoding -/

/-- Every command with legal operands decodes from its own word (30_encoding.md R171, R172, R176). -/
def Obligations.DecodeOfEncodeIsTheCommand : Prop :=
  ∀ i : Instr, i.wellFormed = true → decode (encode i) = .ok i

/-- A word that decodes is the one encoding of a command with legal operands (30_encoding.md R175). -/
def Obligations.EncodeOfDecodeIsTheWord : Prop :=
  ∀ (w : Word) (i : Instr), decode w = .ok i → i.wellFormed = true ∧ encode i = w

/-- The decoder accepts exactly the words that are legal by mask, match, spans and instances, and an illegal
word sets `ILL` and nothing else (30_encoding.md R177). -/
def Obligations.DecodedWordsAreTheLegalOnes : Prop :=
  (∀ w : Word, legalWord w = true ↔ ∃ i, decode w = .ok i) ∧
  ∀ (w : Word) (s : State), legalWord w = false → execute w s = .next { s with ill := true }

/-- For every command a word written out from the field table decodes to it, each field at its own value, and
illegal words are refused, each for its reason (30_encoding.md R171, section 5). -/
def Obligations.SampleWordsDecode : Prop :=
  decode 0x00210401 = .ok (.clarke 4 0 1 2) ∧
  decode 0x00010D02 = .ok (.iclarke 13 0 1) ∧
  decode 0x00354603 = .ok (.park 6 4 5 3) ∧
  decode 0x00A98704 = .ok (.ipark 7 8 9 10) ∧
  decode 0x03076810 = .ok (.piUpd 8 6 7 3) ∧
  decode 0x02000011 = .ok (.piRst 2) ∧
  decode 0x01076820 = .ok (.prUpd 8 6 7 1) ∧
  decode 0x01000021 = .ok (.prRst 1) ∧
  decode 0x01005022 = .ok (.prSetf 5 1) ∧
  decode 0x00010230 = .ok (.pllUpd 2 0 1) ∧
  decode 0x00000031 = .ok .pllRst ∧
  decode 0x00210440 = .ok (.svmCalc 4 0 1 2) ∧
  decode 0x00000041 = .ok .svmMid ∧
  decode 0x0000B050 = .ok (.protUpd 0 11) ∧
  decode 0x00000051 = .ok .protClr ∧
  decode 0x00001052 = .ok (.protSet 1) ∧
  decode 0x00000000 = .error .unassignedOpcode ∧
  decode 0x10000041 = .error .unusedField ∧
  decode 0x00010E02 = .error .registerSpan ∧
  decode 0x04076810 = .error .instanceRange

/-! ### The step and the host port -/

/-- A step whose event is the write of a legal word to `CMD` is that word's command, from the state with the
event taken and the write answered; a word placed by `withFetchWord` is that event (20_memory.md R137;
10_state.md R41). The queue of events and `withFetchWord` are the model's choice (log entry 1). -/
def Obligations.StepRunsTheDecodedCommand : Prop :=
  (∀ (s : State) (w : Word) (i : Instr) (rest : List HostEvent),
    s.pending = .write (.window 0x00C) 4 w :: rest → decode w = .ok i →
      step s = exec i { s with pending := rest, resp := .okay }) ∧
  ∀ (s : State) (i : Instr), i.wellFormed = true →
    step (s.withFetchWord 32 (encode i).toNat) = exec i { s with resp := .okay }

/-- Every step has a next state: nothing stops the core, and an idle bus leaves it as it is. Both are the
model's reading: that no error stops it is log entry 5 (DEDUCED from 60_exceptions.md), and the idle step is
log entry 1 (DESIGN CHOICE). -/
def Obligations.EveryStepHasANextState : Prop := ∀ s : State, ∃ t, step s = .next t

/-- Writing an illegal word to `CMD` sets `ILL`; no other register, flag or port changes (60_exceptions.md
R431). `pending` and `resp` are the host's side of the port. -/
def Obligations.IllegalCommandSetsOnlyIll : Prop :=
  ∀ (s : State) (w : Word) (rest : List HostEvent),
    s.pending = .write (.window 0x00C) 4 w :: rest → legalWord w = false →
      step s = .next { s with ill := true, pending := rest, resp := .okay }

/-- A command whose operand values are illegal raises `ILL` alone (30_encoding.md R173, R174; that `exec`
says so for such a term, which no word decodes to, is the model's reading: log entry 7). -/
def Obligations.IllFormedCommandSetsOnlyIll : Prop :=
  ∀ (i : Instr) (s : State), i.wellFormed = false → exec i s = .next { s with ill := true }

/-- The reset event gives every register of the window its reset value, whatever the state, and the ports
follow (70_reset_and_hazards.md R470, R471). -/
def Obligations.ResetEventGivesTheResetValues : Prop :=
  ∀ (s : State) (rest : List HostEvent), s.pending = .reset :: rest →
    ∃ t, step s = .next t ∧
      (∀ off : BitVec 12, off.toNat % 4 = 0 →
        t.readReg (regAt off.toNat) =
          if off = 0x000 then 0x43505431
          else if off = 0x008 then 0x00000100
          else if off = 0x380 ∨ off = 0x384 ∨ off = 0x388 then 0x00008000
          else 0) ∧
      t.ports = ⟨0x8000, 0x8000, 0x8000, 0, true, false⟩

/-- An access that is not one 32-bit word at a multiple of 4 gets the bus error response and changes no
register or flag (20_memory.md R133; 60_exceptions.md R435). -/
def Obligations.OtherAccessesGetABusError : Prop :=
  ∀ (s : State) (rest : List HostEvent) (off : BitVec 12) (n : Nat) (v : Word),
    ¬ (n = 4 ∧ off.toNat % 4 = 0) →
    (s.pending = .read (.window off) n :: rest →
      step s = .next { s with pending := rest, resp := .busError }) ∧
    (s.pending = .write (.window off) n v :: rest →
      step s = .next { s with pending := rest, resp := .busError })

/-- A word read answers the register at the offset and changes nothing in the core (20_memory.md R135, R139);
and the word that stands at each offset, from the fields of the state (R138; 10_state.md R42-R91). The
unmapped offsets are those of `UnmappedOffsetsReadZeroAndIgnoreWrites`. -/
def Obligations.ReadAnswersAndChangesNothing : Prop :=
  (∀ (s : State) (rest : List HostEvent) (off : BitVec 12), off.toNat % 4 = 0 →
    s.pending = .read (.window off) 4 :: rest →
      step s = .next { s with pending := rest, resp := .data (s.readReg (regAt off.toNat)) }) ∧
  ∀ s : State,
    let r (off : Nat) : Word := s.readReg (regAt off)
    r 0x000 = 0x43505431 ∧ r 0x004 = BitVec.ofNat 32 s.cfgLock.toNat ∧
    r 0x008 = BitVec.ofNat 32 (s.ill.toNat + 2 * s.argerr.toNat + 4 * s.satf.toNat + 8 * s.wlock.toNat
      + 256 * (decide (s.prot.active = 0)).toNat + 512 * s.pll.lock.toNat) ∧
    r 0x00C = 0 ∧ r 0x010 = s.ts ∧
    (∀ n : Fin 16, r (0x040 + 4 * n.val) = s.x[n]) ∧
    (∀ k : Fin 4,
      let q (off : Nat) : Word := r (0x100 + 0x20 * k.val + off)
      q 0x00 = s.pi[k].kp ∧ q 0x04 = s.pi[k].ki ∧ q 0x08 = s.pi[k].umax ∧ q 0x0C = s.pi[k].umin ∧
      q 0x10 = s.pi[k].integ ∧ q 0x14 = s.pi[k].perr ∧ q 0x18 = s.pi[k].out ∧
      q 0x1C = BitVec.ofNat 32 s.pi[k].sat.toNat) ∧
    (∀ j : Fin 2,
      let q (off : Nat) : Word := r (0x200 + 0x80 * j.val + off)
      q 0x00 = s.pr[j].kp ∧ q 0x04 = s.pr[j].kr ∧ q 0x08 = s.pr[j].wc ∧ q 0x0C = s.pr[j].umax ∧
      q 0x10 = s.pr[j].umin ∧ q 0x14 = s.pr[j].w0 ∧ q 0x18 = s.pr[j].b0 ∧ q 0x1C = s.pr[j].b1 ∧
      q 0x20 = s.pr[j].b2 ∧ q 0x24 = s.pr[j].a1 ∧ q 0x28 = s.pr[j].a2 ∧
      q 0x2C = BitVec.ofNat 32 (s.pr[j].w1.toNat % 2 ^ 32) ∧
      q 0x30 = BitVec.ofNat 32 (s.pr[j].w1.toNat / 2 ^ 32) ∧
      q 0x34 = BitVec.ofNat 32 (s.pr[j].w2.toNat % 2 ^ 32) ∧
      q 0x38 = BitVec.ofNat 32 (s.pr[j].w2.toNat / 2 ^ 32) ∧
      q 0x3C = s.pr[j].out ∧ q 0x40 = BitVec.ofNat 32 s.pr[j].sat.toNat) ∧
    (r 0x300 = s.pll.kp ∧ r 0x304 = s.pll.ki ∧ r 0x308 = s.pll.wff ∧ r 0x30C = s.pll.wmin ∧
      r 0x310 = s.pll.wmax ∧ r 0x314 = s.pll.lockThr ∧ r 0x318 = BitVec.ofNat 32 s.pll.lockN.toNat ∧
      r 0x320 = s.pll.theta ∧ r 0x324 = s.pll.omega ∧ r 0x328 = s.pll.integ ∧ r 0x32C = s.pll.vd ∧
      r 0x330 = s.pll.vq ∧ r 0x334 = s.pll.vmag ∧
      r 0x338 = BitVec.ofNat 32 (s.pll.lock.toNat + 65536 * s.pll.lcnt.toNat)) ∧
    (r 0x380 = s.svm.dutyA ∧ r 0x384 = s.svm.dutyB ∧ r 0x388 = s.svm.dutyC ∧
      r 0x38C = BitVec.ofNat 32 s.svm.sector.toNat) ∧
    (r 0x400 = s.prot.imax ∧ r 0x404 = s.prot.vdcmax ∧ r 0x408 = s.prot.vdcmin ∧ r 0x40C = s.prot.tmax ∧
      r 0x410 = BitVec.ofNat 32 s.prot.debounce.toNat ∧ r 0x420 = BitVec.ofNat 32 s.prot.active.toNat ∧
      r 0x424 = BitVec.ofNat 32 s.prot.latched.toNat ∧ r 0x428 = BitVec.ofNat 32 s.prot.trig.toNat ∧
      r 0x42C = BitVec.ofNat 32 s.prot.cntOc.toNat ∧ r 0x430 = BitVec.ofNat 32 s.prot.cntOv.toNat ∧
      r 0x434 = BitVec.ofNat 32 s.prot.cntUv.toNat ∧ r 0x438 = BitVec.ofNat 32 s.prot.cntOt.toNat)

/-- The bits `STATUS` reads as (10_state.md R45; 20_memory.md R135). -/
def Obligations.StatusReadsItsBits : Prop :=
  ∀ (s : State) (i : Nat), (s.readReg (regAt 0x008)).getLsbD i =
    if i = 0 then s.ill else if i = 1 then s.argerr else if i = 2 then s.satf else if i = 3 then s.wlock
    else if i = 8 then decide (s.prot.active = 0) else if i = 9 then s.pll.lock else false

/-- The unmapped word offsets are the ones the map does not list; they read 0 and ignore writes
(20_memory.md R134, R138; `0x180`..`0x1FF`, which R138 lists on neither side: log entry 11). -/
def Obligations.UnmappedOffsetsReadZeroAndIgnoreWrites : Prop :=
  ∀ off : BitVec 12, off.toNat % 4 = 0 →
    (regAt off.toNat = .unmapped ↔
      (0x014 ≤ off.toNat ∧ off.toNat < 0x040) ∨ (0x080 ≤ off.toNat ∧ off.toNat < 0x100) ∨
      (0x180 ≤ off.toNat ∧ off.toNat < 0x200) ∨ (0x244 ≤ off.toNat ∧ off.toNat < 0x280) ∨
      (0x2C4 ≤ off.toNat ∧ off.toNat < 0x300) ∨ off.toNat = 0x31C ∨
      (0x33C ≤ off.toNat ∧ off.toNat < 0x380) ∨ (0x390 ≤ off.toNat ∧ off.toNat < 0x400) ∨
      (0x414 ≤ off.toNat ∧ off.toNat < 0x420) ∨ 0x43C ≤ off.toNat) ∧
    (regAt off.toNat = .unmapped → ∀ (s : State) (v : Word),
      memRead off 4 s = { s with resp := .data 0 } ∧ memWrite off 4 v s = .next { s with resp := .okay })

/-- A write to `Xn` stores the word, which then reads back, and touches no other register (10_state.md R42;
20_memory.md R136). -/
def Obligations.DataRegisterWriteReadsBack : Prop :=
  ∀ (s : State) (n : RegNo) (v : Word),
    ∃ t, memWrite (BitVec.ofNat 12 (0x040 + 4 * n.toNat)) 4 v s = .next t ∧
      t.readReg (regAt (0x040 + 4 * n.toNat)) = v ∧ xAfter s t [(n, v)] ∧
      t = { s with x := t.x, resp := .okay }

/-- While unlocked, a write to a configuration register stores the word, masked to bits 15:0 for `LOCK_N` and
`DEBOUNCE`, and every other register of the window reads as before (20_memory.md R134, R136). The
configuration registers stand at the offsets of type `CFG` of the map (R138). -/
def Obligations.ConfigurationWriteStoresTheMaskedWord : Prop :=
  (∀ (s : State) (off : BitVec 12) (v : Word), off.toNat % 4 = 0 →
    (regAt off.toNat).access = .cfg → s.cfgLock = false →
    ∃ t, memWrite off 4 v s = .next t ∧
      t.readReg (regAt off.toNat) = (if off = 0x318 ∨ off = 0x410 then v &&& 0x0000FFFF else v) ∧
      (∀ r : WinReg, r ≠ regAt off.toNat → t.readReg r = s.readReg r) ∧
      t.pending = s.pending ∧ t.resp = .okay) ∧
  ∀ off : BitVec 12, off.toNat % 4 = 0 →
    ((regAt off.toNat).access = .cfg ↔ off = 0x010 ∨
      (0x100 ≤ off.toNat ∧ off.toNat < 0x180 ∧ off.toNat % 0x20 < 0x10) ∨
      (0x200 ≤ off.toNat ∧ off.toNat < 0x300 ∧ off.toNat % 0x80 < 0x14) ∨
      (0x300 ≤ off.toNat ∧ off.toNat < 0x31C) ∨ (0x400 ≤ off.toNat ∧ off.toNat < 0x414))

/-- A write to a configuration register while `CFG_LOCK = 1` sets `WLOCK` and nothing else; a write to a
read-only register, to `ID` or to an unmapped offset is ignored; no command sets `WLOCK` or writes
configuration (60_exceptions.md R434). -/
def Obligations.LockedConfigurationWriteIsRefused : Prop :=
  (∀ (s : State) (off : BitVec 12) (v : Word), off.toNat % 4 = 0 →
    (regAt off.toNat).access = .cfg → s.cfgLock = true →
      memWrite off 4 v s = .next { s with wlock := true, resp := .okay }) ∧
  (∀ (s : State) (off : BitVec 12) (v : Word), off.toNat % 4 = 0 →
    (regAt off.toNat).access = .ro ∨ (regAt off.toNat).access = .razWi →
      memWrite off 4 v s = .next { s with resp := .okay }) ∧
  ∀ (i : Instr) (s t : State), exec i s = .next t → t.wlock = s.wlock ∧ sameConfig s t

/-- A write to `STATUS` clears the sticky bits that are 1 in the word (10_state.md R45), and a write to
`CTRL` can only set `CFG_LOCK` (R44); neither changes anything else. -/
def Obligations.StatusAndControlWrites : Prop :=
  ∀ (s : State) (v : Word),
    memWrite 0x008 4 v s = .next
      { s with
        ill := s.ill && !v.getLsbD 0, argerr := s.argerr && !v.getLsbD 1,
        satf := s.satf && !v.getLsbD 2, wlock := s.wlock && !v.getLsbD 3, resp := .okay } ∧
    memWrite 0x004 4 v s = .next { s with cfgLock := s.cfgLock || v.getLsbD 0, resp := .okay }

/-- A host address is in the window of a 4096-byte aligned base exactly when its page is the base's, at the
offset of its bits 11:0; an access outside has no effect on the core (20_memory.md R131). `pending` and
`resp` are the host's side of the port. -/
def Obligations.WindowIsThePageOfTheBase : Prop :=
  (∀ page addr : Nat, busAddrAt (4096 * page) addr =
    if addr / 4096 = page then .window (BitVec.ofNat 12 (addr % 4096)) else .outside addr) ∧
  ∀ (s : State) (rest : List HostEvent) (a n : Nat) (v : Word),
    (s.pending = .read (.outside a) n :: rest ∨ s.pending = .write (.outside a) n v :: rest) →
      ∃ t, step s = .next t ∧ t = { s with pending := rest, resp := t.resp }

/-! ### Invariants and whole-machine rules -/

/-- The state after reset keeps the invariant (46_protection.md R404 items 1 and 6; 10_state.md R62, R79,
R81, R82; 70_reset_and_hazards.md R471). -/
def Obligations.ResetKeepsTheInvariant : Prop := State.reset.Inv

/-- Every step from any state that keeps the invariant keeps it (46_protection.md R404 items 1 and 6;
10_state.md R62, R79, R81, R82; 45_svm.md R371, R375). -/
def Obligations.EveryStepKeepsTheInvariant : Prop :=
  ∀ s t : State, s.Inv → step s = .next t → t.Inv

/-- Once `CFG_LOCK` is 1, no run without a reset event changes a configuration register or the lock, whatever
the host issues (10_state.md R44; 60_exceptions.md R442). -/
def Obligations.ConfigurationIsFrozenAlongEveryRun : Prop :=
  ∀ (n : Nat) (s t : State), s.cfgLock = true → HostEvent.reset ∉ s.pending →
    Sys2Proof.core.run n s = .next t → t.cfgLock = true ∧ sameConfig s t

/-- No command clears a sticky bit (60_exceptions.md R438; 10_state.md R45). -/
def Obligations.CommandsClearNoStickyBit : Prop :=
  ∀ (i : Instr) (s t : State), exec i s = .next t →
    (s.ill = true → t.ill = true) ∧ (s.argerr = true → t.argerr = true) ∧
    (s.satf = true → t.satf = true) ∧ (s.wlock = true → t.wlock = true)

/-- A failing command leaves the state as it was but for its `STATUS` bit (60_exceptions.md R437): an illegal
word sets `ILL` alone, whatever the bits were, and a legal one never touches `ILL` and changes nothing else
when it sets `ARGERR`. -/
def Obligations.FailingCommandChangesOnlyItsBit : Prop :=
  ∀ (w : Word) (s t : State), execute w s = .next t →
    (legalWord w = false → t = { s with ill := true }) ∧
    (legalWord w = true → t.ill = s.ill ∧
      (s.argerr = false → t.argerr = true → t = { s with argerr := true }))

/-- One transaction newly sets at most one of `ILL`, `ARGERR`, `WLOCK`, or `SATF` alone (60_exceptions.md
R436). -/
def Obligations.OneTransactionSetsAtMostOneErrorBit : Prop :=
  ∀ s t : State, step s = .next t →
    let newIll := !s.ill && t.ill
    let newArgerr := !s.argerr && t.argerr
    let newSatf := !s.satf && t.satf
    let newWlock := !s.wlock && t.wlock
    newIll.toNat + newArgerr.toNat + newSatf.toNat + newWlock.toNat ≤ 1

/-- Only `prot.clr` and reset clear bits of `LATCHED` (46_protection.md R404 item 2). -/
def Obligations.OnlyClearAndResetUnlatch : Prop :=
  ∀ s t : State, step s = .next t → s.pending.head? ≠ some .reset →
    s.pending.head? ≠ some (.write (.window 0x00C) 4 0x00000051) →
      s.prot.latched &&& t.prot.latched = s.prot.latched

/-! ### Arithmetic -/

/-- The named points at which a value changes: `rnd_k(x)`, `k >= 1`, is the arithmetic right shift by `k` of
`x + 2^(k-1)`, the floor of the quotient (40_numerics.md R211); `CLAMP` tests its upper bound first, also with
inconsistent bounds (R221); `sat32` and `sat64` answer the nearest value of their range, and their flag says
whether the argument lay outside it (R212, R213). -/
def Obligations.RoundingSaturationAndClamp : Prop :=
  (∀ (k : Nat) (x : Int), 1 ≤ k →
    rnd k x = (x + 2 ^ (k - 1)) >>> k ∧
    2 ^ k * rnd k x ≤ x + 2 ^ (k - 1) ∧ x + 2 ^ (k - 1) < 2 ^ k * (rnd k x + 1)) ∧
  (∀ x lo hi : Int, (hi < x → clamp x lo hi = hi) ∧ (x ≤ hi → clamp x lo hi = max lo x) ∧
    (hi < lo → x ≤ hi → clamp x lo hi = lo)) ∧
  (∀ x : Int, sat32 x = max (-2 ^ 31) (min (2 ^ 31 - 1) x) ∧
    (clips32 x = true ↔ x < -2 ^ 31 ∨ 2 ^ 31 - 1 < x)) ∧
  ∀ x : Int, sat64 x = max (-2 ^ 63) (min (2 ^ 63 - 1) x) ∧
    (clips64 x = true ↔ x < -2 ^ 63 ∨ 2 ^ 63 - 1 < x)

/-- `divt(n, d)` rounds the quotient toward zero: the remainder is smaller than the divisor and has the sign
of the dividend (40_numerics.md R214). -/
def Obligations.DivisionTruncates : Prop :=
  ∀ n d : Int, d ≠ 0 → ∃ r : Int, n = divt n d * d + r ∧ r.natAbs < d.natAbs ∧ 0 ≤ n * r

/-- `isqrt(n)` is the largest integer whose square is at most `n` (40_numerics.md R215). -/
def Obligations.SquareRootIsTheFloor : Prop :=
  ∀ n : Nat, isqrt n ^ 2 ≤ n ∧ ∀ r : Nat, r ^ 2 ≤ n → r ≤ isqrt n

/-- `SINCOS(θ)` is the quadrant step on the 24 CORDIC rotations of the residual angle `θ[29:0]` from
`(KINV, 0)`, with the constants of the spec: `x i`, `y i`, `z i` are the iterate before rotation `i`
(40_numerics.md R216, R217). So a quarter turn maps `(c, s)` to `(-s, c)` exactly. -/
def Obligations.SincosIsTheRotationOfTheResidual : Prop :=
  let atan : List Int := [536870912, 316933406, 167458907, 85004756, 42667331, 21354465, 10679838, 5340245,
    2670163, 1335087, 667544, 333772, 166886, 83443, 41722, 20861, 10430, 5215, 2608, 1304, 652, 326, 163, 81]
  (∀ th : Word, ∃ x y z : Nat → Int,
    x 0 = 652032874 ∧ y 0 = 0 ∧ z 0 = (th.toNat : Int) % 2 ^ 30 ∧
    (∀ i : Nat, i < 24 →
      (0 ≤ z i → x (i + 1) = x i - y i >>> i ∧ y (i + 1) = y i + x i >>> i ∧
        z (i + 1) = z i - atan.getD i 0) ∧
      (z i < 0 → x (i + 1) = x i + y i >>> i ∧ y (i + 1) = y i - x i >>> i ∧
        z (i + 1) = z i + atan.getD i 0)) ∧
    sincos th =
      if th.toNat / 2 ^ 30 = 0 then (x 24, y 24) else if th.toNat / 2 ^ 30 = 1 then (-y 24, x 24)
      else if th.toNat / 2 ^ 30 = 2 then (-x 24, -y 24) else (y 24, -x 24)) ∧
  ∀ th : Word, sincos (th + 0x40000000) = (-(sincos th).2, (sincos th).1)

/-! ### Coordinate transforms -/

/-- `clarke` (41_transform.md R261): its two results, `SATF`, and nothing else. -/
def Obligations.ClarkeResult : Prop :=
  ∀ (rd r1 r2 r3 : RegNo) (s : State), rd.toNat ≤ 14 →
    let a := sv (s.readX r1)
    let b := sv (s.readX r2)
    let c := sv (s.readX r3)
    let alpha := rnd 30 ((2 * a - b - c) * 357913941)
    let beta := rnd 30 ((b - c) * 619925131)
    ∃ t, exec (.clarke rd r1 r2 r3) s = .next t ∧
      xAfter s t [(rd, toWord (sat32 alpha)), (rd + 1, toWord (sat32 beta))] ∧
      t.satf = (s.satf || decide (sat32 alpha ≠ alpha) || decide (sat32 beta ≠ beta)) ∧
      t = { s with x := t.x, satf := t.satf }

/-- `iclarke` (41_transform.md R262): its three results, `SATF`, and nothing else. -/
def Obligations.InverseClarkeResult : Prop :=
  ∀ (rd r1 r2 : RegNo) (s : State), rd.toNat ≤ 13 →
    let al := sv (s.readX r1)
    let be := sv (s.readX r2)
    let b := rnd 30 (-al * 2 ^ 29 + be * 929887697)
    let c := rnd 30 (-al * 2 ^ 29 - be * 929887697)
    ∃ t, exec (.iclarke rd r1 r2) s = .next t ∧
      xAfter s t [(rd, s.readX r1), (rd + 1, toWord (sat32 b)), (rd + 2, toWord (sat32 c))] ∧
      t.satf = (s.satf || decide (sat32 b ≠ b) || decide (sat32 c ≠ c)) ∧
      t = { s with x := t.x, satf := t.satf }

/-- `park` (41_transform.md R263): rotation by `-θ`, `SATF`, and nothing else. -/
def Obligations.ParkResult : Prop :=
  ∀ (rd r1 r2 r3 : RegNo) (s : State), rd.toNat ≤ 14 →
    let al := sv (s.readX r1)
    let be := sv (s.readX r2)
    let c := (sincos (s.readX r3)).1
    let sn := (sincos (s.readX r3)).2
    let d := rnd 30 (al * c + be * sn)
    let q := rnd 30 (-al * sn + be * c)
    ∃ t, exec (.park rd r1 r2 r3) s = .next t ∧
      xAfter s t [(rd, toWord (sat32 d)), (rd + 1, toWord (sat32 q))] ∧
      t.satf = (s.satf || decide (sat32 d ≠ d) || decide (sat32 q ≠ q)) ∧
      t = { s with x := t.x, satf := t.satf }

/-- `ipark` (41_transform.md R264): rotation by `+θ`, `SATF`, and nothing else. -/
def Obligations.InverseParkResult : Prop :=
  ∀ (rd r1 r2 r3 : RegNo) (s : State), rd.toNat ≤ 14 →
    let d := sv (s.readX r1)
    let q := sv (s.readX r2)
    let c := (sincos (s.readX r3)).1
    let sn := (sincos (s.readX r3)).2
    let al := rnd 30 (d * c - q * sn)
    let be := rnd 30 (d * sn + q * c)
    ∃ t, exec (.ipark rd r1 r2 r3) s = .next t ∧
      xAfter s t [(rd, toWord (sat32 al)), (rd + 1, toWord (sat32 be))] ∧
      t.satf = (s.satf || decide (sat32 al ≠ al) || decide (sat32 be ≠ be)) ∧
      t = { s with x := t.x, satf := t.satf }

/-- Negating a vector and turning the angle by half a turn leaves the results of `park` and `ipark` as they
were, exactly (41_transform.md R265 item 3). `-2^31` has no negation in a register, so it is excluded. -/
def Obligations.RotationOfTheOppositeVector : Prop :=
  ∀ (rd a b th : RegNo) (s : State) (i : Instr), rd.toNat ≤ 14 → a ≠ b → a ≠ th → b ≠ th →
    s.readX a ≠ 0x80000000 → s.readX b ≠ 0x80000000 →
    i = .park rd a b th ∨ i = .ipark rd a b th →
    let s' := ((s.writeX a (-s.readX a)).writeX b (-s.readX b)).writeX th (s.readX th + 0x80000000)
    ∃ u u', exec i s = .next u ∧ exec i s' = .next u' ∧
      u'.readX rd = u.readX rd ∧ u'.readX (rd + 1) = u.readX (rd + 1) ∧ u'.satf = u.satf

/-- The transforms read data registers only: from states with the same data registers they leave the same
data registers, and the saturation they or into `SATF` is the same (41_transform.md R260). -/
def Obligations.TransformsReadOnlyDataRegisters : Prop :=
  ∀ (rd r1 r2 r3 : RegNo) (i : Instr) (s s' t t' : State),
    i = .clarke rd r1 r2 r3 ∨ i = .iclarke rd r1 r2 ∨ i = .park rd r1 r2 r3 ∨ i = .ipark rd r1 r2 r3 →
    s.x = s'.x → exec i s = .next t → exec i s' = .next t' →
      t.x = t'.x ∧ ∃ clipped : Bool, t.satf = (s.satf || clipped) ∧ t'.satf = (s'.satf || clipped)

/-- `clarke` after `iclarke` returns its input within 1 LSB for components in ±16000 (41_transform.md R265
item 2). -/
def Obligations.ClarkeOfInverseClarkeIsCloseInRange : Prop :=
  ∀ (r1 r2 rd rd' : RegNo) (s : State), rd.toNat ≤ 13 → rd'.toNat ≤ 14 →
    (sv (s.readX r1)).natAbs ≤ 16000 * 65536 → (sv (s.readX r2)).natAbs ≤ 16000 * 65536 →
    ∃ u t, exec (.iclarke rd r1 r2) s = .next u ∧ exec (.clarke rd' rd (rd + 1) (rd + 2)) u = .next t ∧
      (sv (t.readX rd') - sv (s.readX r1)).natAbs ≤ 1 ∧
      (sv (t.readX (rd' + 1)) - sv (s.readX r2)).natAbs ≤ 1

/-- The same with no bound on the components, as 41_transform.md R262 remarks it. Expected to fail near full
scale (log entry 9). -/
def Obligations.ClarkeOfInverseClarkeIsCloseEverywhere : Prop :=
  ∀ (r1 r2 rd rd' : RegNo) (s : State), rd.toNat ≤ 13 → rd'.toNat ≤ 14 →
    ∃ u t, exec (.iclarke rd r1 r2) s = .next u ∧ exec (.clarke rd' rd (rd + 1) (rd + 2)) u = .next t ∧
      (sv (t.readX rd') - sv (s.readX r1)).natAbs ≤ 1 ∧
      (sv (t.readX (rd' + 1)) - sv (s.readX r2)).natAbs ≤ 1

/-- `clarke` does not saturate while every input has magnitude at most 23988, nor `iclarke` while every input
has magnitude at most 23987 (41_transform.md R265 item 5, with the bound that holds; log entry 8). -/
def Obligations.ClarkePairDoesNotSaturateInRange : Prop :=
  (∀ (rd r1 r2 r3 : RegNo) (s t : State), exec (.clarke rd r1 r2 r3) s = .next t →
    (sv (s.readX r1)).natAbs ≤ 23988 * 65536 → (sv (s.readX r2)).natAbs ≤ 23988 * 65536 →
    (sv (s.readX r3)).natAbs ≤ 23988 * 65536 → t.satf = s.satf) ∧
  ∀ (rd r1 r2 : RegNo) (s t : State), exec (.iclarke rd r1 r2) s = .next t →
    (sv (s.readX r1)).natAbs ≤ 23987 * 65536 → (sv (s.readX r2)).natAbs ≤ 23987 * 65536 → t.satf = s.satf

/-- The bound 23988 for `iclarke`, as 41_transform.md R265 item 5 has it. Expected to fail (log entry 8). -/
def Obligations.InverseClarkeDoesNotSaturateAt23988 : Prop :=
  ∀ (rd r1 r2 : RegNo) (s t : State), exec (.iclarke rd r1 r2) s = .next t →
    (sv (s.readX r1)).natAbs ≤ 23988 * 65536 → (sv (s.readX r2)).natAbs ≤ 23988 * 65536 → t.satf = s.satf

/-! ### PI regulator -/

/-- `pi.upd` (42_pi.md R291): the output, the anti-windup choice, the flags, and nothing else. -/
def Obligations.PiUpdateResult : Prop :=
  ∀ (rd r1 r2 : RegNo) (k : InstNo) (i : Fin 4) (s : State), k.toNat = i.val →
    let p := s.pi[i]
    let diff := sv (s.readX r1) - sv (s.readX r2)
    let e := sat32 diff
    let it := sv p.integ + rnd 48 (sv p.ki * uv s.ts * e)
    let ut := rnd 16 (sv p.kp * e) + it
    let high := decide (ut > sv p.umax)
    let low := !high && decide (ut < sv p.umin)
    let u := if high then sv p.umax else if low then sv p.umin else ut
    let advance := if high then decide (e < 0) else if low then decide (e > 0) else true
    ∃ t, exec (.piUpd rd r1 r2 k) s = .next t ∧
      t.pi[i] = { p with
        integ := if advance then toWord (sat32 it) else p.integ
        perr := toWord e
        out := toWord u
        sat := high || low } ∧
      (∀ m : Fin 4, m ≠ i → t.pi[m] = s.pi[m]) ∧
      xAfter s t [(rd, toWord u)] ∧
      t.satf = (s.satf || decide (e ≠ diff) || (advance && decide (sat32 it ≠ it))) ∧
      t = { s with pi := t.pi, x := t.x, satf := t.satf }

/-- `pi.rst` (42_pi.md R292): the state of the one instance is zeroed, its configuration and everything else
is kept, locked or not. -/
def Obligations.PiResetResult : Prop :=
  ∀ (k : InstNo) (i : Fin 4) (s : State), k.toNat = i.val →
    ∃ t, exec (.piRst k) s = .next t ∧
      t.pi[i] = { s.pi[i] with integ := 0, perr := 0, out := 0, sat := false } ∧
      (∀ m : Fin 4, m ≠ i → t.pi[m] = s.pi[m]) ∧ t = { s with pi := t.pi }

/-- With `UMIN <= UMAX` the output of `pi.upd` lies in `[UMIN, UMAX]` (42_pi.md R293 item 1). Whatever the
bounds, on the high clamp the integrator is held unless the error is negative, and on the low clamp unless it
is positive (item 2). -/
def Obligations.PiOutputIsBoundedWithoutWindup : Prop :=
  ∀ (rd r1 r2 : RegNo) (k : InstNo) (i : Fin 4) (s t : State), k.toNat = i.val →
    exec (.piUpd rd r1 r2 k) s = .next t →
    let p := s.pi[i]
    let e := sat32 (sv (s.readX r1) - sv (s.readX r2))
    let ut := rnd 16 (sv p.kp * e) + (sv p.integ + rnd 48 (sv p.ki * uv s.ts * e))
    t.readX rd = t.pi[i].out ∧
    (sv p.umin ≤ sv p.umax → sv p.umin ≤ sv t.pi[i].out ∧ sv t.pi[i].out ≤ sv p.umax) ∧
    (sv p.umax < ut → t.pi[i].sat = true ∧ t.pi[i].out = p.umax ∧ (0 ≤ e → t.pi[i].integ = p.integ)) ∧
    (ut ≤ sv p.umax → ut < sv p.umin →
      t.pi[i].sat = true ∧ t.pi[i].out = p.umin ∧ (e ≤ 0 → t.pi[i].integ = p.integ))

/-- After `pi.rst`, the next `pi.upd` gives the clamp of the proportional term and one integral step
(42_pi.md R293 item 3). -/
def Obligations.PiUpdateAfterReset : Prop :=
  ∀ (rd r1 r2 : RegNo) (k : InstNo) (i : Fin 4) (s : State), k.toNat = i.val →
    let e := sat32 (sv (s.readX r1) - sv (s.readX r2))
    ∃ u t, exec (.piRst k) s = .next u ∧ exec (.piUpd rd r1 r2 k) u = .next t ∧
      t.readX rd = toWord (clamp (rnd 16 (sv s.pi[i].kp * e) + rnd 48 (sv s.pi[i].ki * uv s.ts * e))
        (sv s.pi[i].umin) (sv s.pi[i].umax))

/-- `pi.upd` reads only its instance, `TS` and its two operands: what it writes to the instance and to its
destination, and the saturation it ors into `SATF`, are functions of them (42_pi.md R290). -/
def Obligations.PiUpdateReadsOnlyItsInstance : Prop :=
  ∀ (rd r1 r2 : RegNo) (k : InstNo) (i : Fin 4) (s s' t t' : State), k.toNat = i.val →
    s.pi[i] = s'.pi[i] → s.ts = s'.ts → s.readX r1 = s'.readX r1 → s.readX r2 = s'.readX r2 →
    exec (.piUpd rd r1 r2 k) s = .next t → exec (.piUpd rd r1 r2 k) s' = .next t' →
      t.pi[i] = t'.pi[i] ∧ t.readX rd = t'.readX rd ∧
      ∃ clipped : Bool, t.satf = (s.satf || clipped) ∧ t'.satf = (s'.satf || clipped)

/-! ### PR regulator -/

/-- `pr.upd` (43_pr.md R311): the delay line shifts even when the output clamps; the output, the flags, and
nothing else. -/
def Obligations.PrUpdateResult : Prop :=
  ∀ (rd r1 r2 : RegNo) (j : InstNo) (i : Fin 2) (s : State), j.toNat = i.val →
    let p := s.pr[i]
    let diff := sv (s.readX r1) - sv (s.readX r2)
    let e := sat32 diff
    let w := e * 2 ^ 16 - rnd 30 (sv p.a1 * p.w1.toInt + sv p.a2 * p.w2.toInt)
    let wn := sat64 w
    let yr := rnd 46 (sv p.b0 * wn + sv p.b1 * p.w1.toInt + sv p.b2 * p.w2.toInt)
    let ut := rnd 16 (sv p.kp * e) + rnd 16 (sv p.kr * sat32 yr)
    let high := decide (ut > sv p.umax)
    let low := !high && decide (ut < sv p.umin)
    let u := if high then sv p.umax else if low then sv p.umin else ut
    ∃ t, exec (.prUpd rd r1 r2 j) s = .next t ∧
      t.pr[i] = { p with w1 := BitVec.ofInt 64 wn, w2 := p.w1, out := toWord u, sat := high || low } ∧
      (∀ m : Fin 2, m ≠ i → t.pr[m] = s.pr[m]) ∧
      xAfter s t [(rd, toWord u)] ∧
      t.satf = (s.satf || decide (e ≠ diff) || decide (wn ≠ w) || decide (sat32 yr ≠ yr)) ∧
      t = { s with pr := t.pr, x := t.x, satf := t.satf }

/-- `pr.rst` (43_pr.md R312): the delay line, output and flag of the one instance are zeroed; coefficients,
configuration and everything else are kept, locked or not. -/
def Obligations.PrResetResult : Prop :=
  ∀ (j : InstNo) (i : Fin 2) (s : State), j.toNat = i.val →
    ∃ t, exec (.prRst j) s = .next t ∧
      t.pr[i] = { s.pr[i] with w1 := 0, w2 := 0, out := 0, sat := false } ∧
      (∀ m : Fin 2, m ≠ i → t.pr[m] = s.pr[m]) ∧ t = { s with pr := t.pr }

/-- `pr.setf` (43_pr.md R313): for a positive denominator the coefficients and `W0`, with `SATF`, and nothing
else; for another one `ARGERR` alone. -/
def Obligations.PrTuneResult : Prop :=
  ∀ (r1 : RegNo) (j : InstNo) (i : Fin 2) (s : State), j.toNat = i.val →
    let p := s.pr[i]
    let w0 := sv (s.readX r1)
    let phi := rnd 65 (w0 * uv s.ts * 44798133900177)
    let c := (sincos (BitVec.ofInt 32 phi)).1
    let cc := rnd 19 (sv p.wc * uv s.ts)
    let c2 := rnd 30 (c * c)
    let m := rnd 30 (2 * cc * c2)
    let den := 2 ^ 30 + m
    let b0 := divt (m * 2 ^ 30) den
    let a1 := divt (-2 * (2 * c2 - 2 ^ 30) * 2 ^ 30) den
    let a2 := divt ((2 ^ 30 - m) * 2 ^ 30) den
    (0 < den → ∃ t, exec (.prSetf r1 j) s = .next t ∧
      t.pr[i] = { p with
        b0 := toWord (sat32 b0)
        b1 := 0
        b2 := toWord (sat32 (-sat32 b0))
        a1 := toWord (sat32 a1)
        a2 := toWord (sat32 a2)
        w0 := s.readX r1 } ∧
      (∀ n : Fin 2, n ≠ i → t.pr[n] = s.pr[n]) ∧
      t.satf = (s.satf || decide (sat32 b0 ≠ b0) || decide (sat32 (-sat32 b0) ≠ -sat32 b0)
        || decide (sat32 a1 ≠ a1) || decide (sat32 a2 ≠ a2)) ∧
      t = { s with pr := t.pr, satf := t.satf }) ∧
    (den ≤ 0 → exec (.prSetf r1 j) s = .next { s with argerr := true })

/-- A negative frequency gives the same `c` as the positive one, as 43_pr.md R313 remarks. Expected to fail:
CORDIC's cosine is not exactly even (log entry 10). -/
def Obligations.TuneCosineIsEven : Prop :=
  ∀ w0 ts : Word, (sincos (BitVec.ofInt 32 (prPhi (-sv w0) (uv ts)))).1 =
    (sincos (BitVec.ofInt 32 (prPhi (sv w0) (uv ts)))).1

/-! ### PLL -/

/-- `pll.upd` (44_pll.md R341): every register it writes, the flags, and nothing else. -/
def Obligations.PllUpdateResult : Prop :=
  ∀ (rd r1 r2 : RegNo) (s : State), rd.toNat ≤ 14 →
    let p := s.pll
    let va := sv (s.readX r1)
    let vb := sv (s.readX r2)
    let c := (sincos p.theta).1
    let sn := (sincos p.theta).2
    let d := rnd 30 (va * c + vb * sn)
    let q := rnd 30 (-va * sn + vb * c)
    let vq := sat32 q
    let mag : Int := (isqrt (va ^ 2 + vb ^ 2).toNat : Int)
    let vm := if mag > 2 ^ 31 - 1 then 2 ^ 31 - 1 else mag
    let err := sat32 (-vq)
    let ir := clamp (sv p.integ + rnd 16 (sv p.ki * err)) (sv p.wmin - sv p.wff) (sv p.wmax - sv p.wff)
    let it := sat32 ir
    let w := clamp (sv p.wff + rnd 16 (sv p.kp * err) + it) (sv p.wmin) (sv p.wmax)
    let th := (uv p.theta + rnd 64 (w * uv s.ts * 44798133900177)) % 2 ^ 32
    let good := decide (|vq| * 2 ^ 16 < sv p.lockThr * vm)
    let count := if good then min (p.lcnt.toNat + 1) p.lockN.toNat else 0
    ∃ t, exec (.pllUpd rd r1 r2) s = .next t ∧
      t.pll = { p with
        theta := BitVec.ofInt 32 th, omega := toWord w, integ := toWord it
        vd := toWord (sat32 d), vq := toWord vq, vmag := toWord vm
        lcnt := BitVec.ofNat 16 count, lock := good && decide (count = p.lockN.toNat) } ∧
      xAfter s t [(rd, BitVec.ofInt 32 th), (rd + 1, toWord w)] ∧
      t.satf = (s.satf || decide (sat32 d ≠ d) || decide (vq ≠ q) || decide (err ≠ -vq)
        || decide (it ≠ ir) || decide (mag ≠ vm)) ∧
      t = { s with pll := t.pll, x := t.x, satf := t.satf }

/-- `pll.rst` (44_pll.md R342): angle 0, frequency `WFF`, integrator and lock state cleared; `VD`, `VQ`,
`VMAG`, configuration and everything else are kept, locked or not. -/
def Obligations.PllResetResult : Prop :=
  ∀ s : State, exec .pllRst s = .next
    { s with pll := { s.pll with theta := 0, omega := s.pll.wff, integ := 0, lock := false, lcnt := 0 } }

/-- After every `pll.upd` the counter is at most `LOCK_N`, lock means that it has reached it, and with
consistent bounds the frequency and the integrator are within theirs (44_pll.md R344 items 3 and 4). -/
def Obligations.PllStaysWithinItsBounds : Prop :=
  ∀ (rd r1 r2 : RegNo) (s t : State), rd.toNat ≤ 14 → exec (.pllUpd rd r1 r2) s = .next t →
    t.pll.lcnt.toNat ≤ t.pll.lockN.toNat ∧ (t.pll.lock = true → t.pll.lcnt = t.pll.lockN) ∧
    (sv s.pll.wmin ≤ sv s.pll.wmax →
      sv s.pll.wmin ≤ sv t.pll.omega ∧ sv t.pll.omega ≤ sv s.pll.wmax ∧
      (-2 ^ 31 ≤ sv s.pll.wmin - sv s.pll.wff → sv s.pll.wmin - sv s.pll.wff < 2 ^ 31 →
        -2 ^ 31 ≤ sv s.pll.wmax - sv s.pll.wff → sv s.pll.wmax - sv s.pll.wff < 2 ^ 31 →
        sv s.pll.wmin - sv s.pll.wff ≤ sv t.pll.integ ∧ sv t.pll.integ ≤ sv s.pll.wmax - sv s.pll.wff))

/-- A zero vector is never locked, nor is any vector with `LOCK_THR <= 0` (44_pll.md R341, corner cases). -/
def Obligations.PllNeverLocksOnNothing : Prop :=
  ∀ (rd r1 r2 : RegNo) (s t : State), rd.toNat ≤ 14 → exec (.pllUpd rd r1 r2) s = .next t →
    (s.readX r1 = 0 ∧ s.readX r2 = 0) ∨ sv s.pll.lockThr ≤ 0 → t.pll.lock = false ∧ t.pll.lcnt = 0

/-! ### Space-vector modulator -/

/-- `svm.calc` (45_svm.md R371), with the dwell table (R372) and the duty table (R373) written out: for
`vdc > 0` the duties of the sector's dwell times, the sector code, `SATF`, and nothing else; otherwise
`ARGERR` alone. -/
def Obligations.SvmResult : Prop :=
  ∀ (rd r1 r2 r3 : RegNo) (s : State), rd.toNat ≤ 13 →
    let vdc := sv (s.readX r3)
    let anr := divt (sv (s.readX r1) * 2 ^ 16) vdc
    let bnr := divt (sv (s.readX r2) * 2 ^ 16) vdc
    let an := sat32 anr
    let bn := sat32 bnr
    let s3a := rnd 30 (an * 1859775393)
    let n := (decide (bn > 0)).toNat + 2 * (decide (s3a - bn > 0)).toNat + 4 * (decide (-s3a - bn > 0)).toNat
    let xr := rnd 30 (bn * 1859775393)
    let yr := rnd 30 (bn * 929887697 + an * 1610612736)
    let zr := rnd 30 (bn * 929887697 - an * 1610612736)
    let x := sat32 xr
    let y := sat32 yr
    let z := sat32 zr
    let t0 : Int × Int :=
      if n = 3 then (-z, x) else if n = 1 then (z, y) else if n = 5 then (x, -y)
      else if n = 4 then (-x, z) else if n = 6 then (-y, -z) else if n = 2 then (y, -x) else (0, 0)
    let excess := decide (t0.1 + t0.2 > 65536)
    let t1 := if excess then divt (t0.1 * 65536) (t0.1 + t0.2) else t0.1
    let t2 := if excess then 65536 - t1 else t0.2
    let h := (65536 - t1 - t2) / 2
    let d : Int × Int × Int :=
      if n = 3 then (t1 + t2 + h, t2 + h, h) else if n = 1 then (t2 + h, t1 + t2 + h, h)
      else if n = 5 then (h, t1 + t2 + h, t2 + h) else if n = 4 then (h, t2 + h, t1 + t2 + h)
      else if n = 6 then (t2 + h, h, t1 + t2 + h) else if n = 2 then (t1 + t2 + h, h, t2 + h) else (h, h, h)
    let da := toWord (max 0 (min 65536 d.1))
    let db := toWord (max 0 (min 65536 d.2.1))
    let dc := toWord (max 0 (min 65536 d.2.2))
    (0 < vdc → ∃ t, exec (.svmCalc rd r1 r2 r3) s = .next t ∧
      t.svm = ⟨da, db, dc, BitVec.ofNat 3 n⟩ ∧
      xAfter s t [(rd, da), (rd + 1, db), (rd + 2, dc)] ∧
      t.satf = (s.satf || decide (an ≠ anr) || decide (bn ≠ bnr) || decide (x ≠ xr)
        || decide (y ≠ yr) || decide (z ≠ zr)) ∧
      t = { s with svm := t.svm, x := t.x, satf := t.satf }) ∧
    (vdc ≤ 0 → exec (.svmCalc rd r1 r2 r3) s = .next { s with argerr := true })

/-- `svm.mid` (45_svm.md R374): the zero-voltage midpoint, and nothing else changes, locked or not. -/
def Obligations.SvmMidpointResult : Prop :=
  ∀ s : State, exec .svmMid s = .next { s with svm := ⟨0x8000, 0x8000, 0x8000, 0⟩ }

/-- For every `vdc > 0` the duties of `svm.calc` lie in `[0, 1]`, the sector code is one of 0..6, and it is 0
exactly when the normalised vector is zero, with the midpoint duties then (45_svm.md R375 items 1 and 2;
R371, corner cases); and the output ports carry them whole, beside `SAFE` and `PLL.LOCK` (10_state.md R93). -/
def Obligations.SvmDutiesAndSectorAreLegal : Prop :=
  ∀ (rd r1 r2 r3 : RegNo) (s : State), rd.toNat ≤ 13 → 0 < sv (s.readX r3) →
    ∃ t, exec (.svmCalc rd r1 r2 r3) s = .next t ∧
      t.svm.dutyA.toNat ≤ 65536 ∧ t.svm.dutyB.toNat ≤ 65536 ∧ t.svm.dutyC.toNat ≤ 65536 ∧
      t.svm.sector.toNat ≤ 6 ∧
      (t.svm.sector = 0 ↔ divt (sv (s.readX r1) * 2 ^ 16) (sv (s.readX r3)) = 0 ∧
        divt (sv (s.readX r2) * 2 ^ 16) (sv (s.readX r3)) = 0) ∧
      (t.svm.sector = 0 → t.svm = ⟨0x8000, 0x8000, 0x8000, 0⟩) ∧
      t.ports.dutyA.toNat = t.svm.dutyA.toNat ∧ t.ports.dutyB.toNat = t.svm.dutyB.toNat ∧
      t.ports.dutyC.toNat = t.svm.dutyC.toNat ∧ t.ports.sector = t.svm.sector ∧
      t.ports.safe = decide (s.prot.active = 0) ∧ t.ports.pllLock = s.pll.lock

/-! ### Protection manager -/

/-- `prot.upd` (46_protection.md R401): the detectors, the debounce counters, the masks, the result, and
nothing else. -/
def Obligations.ProtectionUpdateResult : Prop :=
  ∀ (rd r1 : RegNo) (s : State), r1.toNat ≤ 11 →
    let p := s.prot
    let ia := sv (s.readX r1)
    let ib := sv (s.readX (r1 + 1))
    let ic := sv (s.readX (r1 + 2))
    let vdc := sv (s.readX (r1 + 3))
    let temp := sv (s.readX (r1 + 4))
    let oc := decide (max |ia| (max |ib| |ic|) > sv p.imax)
    let ov := decide (vdc > sv p.vdcmax)
    let uv := decide (vdc < sv p.vdcmin)
    let ot := decide (temp > sv p.tmax)
    let count (raw : Bool) (cnt : BitVec 16) : BitVec 16 :=
      if raw then if cnt < p.debounce then cnt + 1 else cnt else 0
    let confirmed (raw : Bool) (cnt : BitVec 16) : Bool := raw && decide (p.debounce ≤ cnt)
    let conf : BitVec 8 := BitVec.ofNat 8 ((confirmed oc p.cntOc).toNat + 2 * (confirmed ov p.cntOv).toNat
      + 4 * (confirmed uv p.cntUv).toNat + 8 * (confirmed ot p.cntOt).toNat)
    ∃ t, exec (.protUpd rd r1) s = .next t ∧
      t.prot = { p with
        active := conf, latched := p.latched ||| conf, trig := p.trig || decide (conf ≠ 0)
        cntOc := count oc p.cntOc, cntOv := count ov p.cntOv, cntUv := count uv p.cntUv
        cntOt := count ot p.cntOt } ∧
      xAfter s t [(rd, conf.zeroExtend 32)] ∧
      t = { s with prot := t.prot, x := t.x }

/-- `prot.clr` (46_protection.md R402): the masks, the flag and the counters are cleared; thresholds and
everything else are kept, locked or not. -/
def Obligations.ProtectionClearResult : Prop :=
  ∀ s : State, ∃ t, exec .protClr s = .next t ∧ t.safe = true ∧
    t = { s with prot := { s.prot with
      active := 0, latched := 0, trig := false, cntOc := 0, cntOv := 0, cntUv := 0, cntOt := 0 } }

/-- `prot.set` (46_protection.md R403): bits 7:0 of the operand are ored into `ACTIVE` and `LATCHED`, a
nonzero mask sets `TRIG` and clears `SAFE`, and nothing else changes. -/
def Obligations.ProtectionSetResult : Prop :=
  ∀ (r1 : RegNo) (s : State),
    let m : BitVec 8 := (s.readX r1).truncate 8
    ∃ t, exec (.protSet r1) s = .next t ∧
      (m ≠ 0 → t.safe = false ∧ t.prot.trig = true) ∧ (m = 0 → t = s) ∧
      t.prot.active = s.prot.active ||| m ∧ t.prot.latched = s.prot.latched ||| m ∧
      t.prot.trig = (s.prot.trig || decide (m ≠ 0)) ∧
      t = { s with prot := { s.prot with
        active := t.prot.active, latched := t.prot.latched, trig := t.prot.trig } }

/-- Debounce timing (46_protection.md R401, corner cases; 90_conflicts.md C2): an over-current, of whichever
phase, that is present on every call from a cleared counter counts up on the first `DEBOUNCE` calls, and is
confirmed on call `DEBOUNCE + 1` and every later one. The result register is none of the three phase
currents, so that they stay. -/
def Obligations.OverCurrentIsConfirmedAfterDebounce : Prop :=
  ∀ (rd r1 : RegNo) (s : State) (n : Nat), r1.toNat ≤ 11 →
    rd ≠ r1 → rd ≠ r1 + 1 → rd ≠ r1 + 2 →
    sv s.prot.imax < max |sv (s.readX r1)| (max |sv (s.readX (r1 + 1))| |sv (s.readX (r1 + 2))|) →
    s.prot.cntOc = 0 →
    ∃ t, repeatExec (.protUpd rd r1) n s = .next t ∧
      t.prot.cntOc.toNat = min n s.prot.debounce.toNat ∧
      (0 < n → t.prot.active.getLsbD 0 = decide (s.prot.debounce.toNat < n) ∧
        (t.readX rd).getLsbD 0 = decide (s.prot.debounce.toNat < n))

/-- After every `prot.upd` a counter is at most the larger of `DEBOUNCE` and its value before the call
(46_protection.md R404 item 5). -/
def Obligations.DebounceCountersAreBounded : Prop :=
  ∀ (rd r1 : RegNo) (s t : State), r1.toNat ≤ 11 → exec (.protUpd rd r1) s = .next t →
    t.prot.cntOc.toNat ≤ max s.prot.debounce.toNat s.prot.cntOc.toNat ∧
    t.prot.cntOv.toNat ≤ max s.prot.debounce.toNat s.prot.cntOv.toNat ∧
    t.prot.cntUv.toNat ≤ max s.prot.debounce.toNat s.prot.cntUv.toNat ∧
    t.prot.cntOt.toNat ≤ max s.prot.debounce.toNat s.prot.cntOt.toNat
end

