-- ==== Sys2Proof/Laws/State.lean ====
section
/-! SUPPORT. What each update of the state leaves in each field, so that no proof unfolds a record update. -/

namespace Sys2Proof.Machine.State

variable (s : State)

/-! ### raise -/

@[simp] theorem raise_cfgLock (e : ErrorBit) : (s.raise e).cfgLock = s.cfgLock := by cases e <;> rfl
@[simp] theorem raise_satf (e : ErrorBit) : (s.raise e).satf = s.satf := by cases e <;> rfl
@[simp] theorem raise_ts (e : ErrorBit) : (s.raise e).ts = s.ts := by cases e <;> rfl
@[simp] theorem raise_x (e : ErrorBit) : (s.raise e).x = s.x := by cases e <;> rfl
@[simp] theorem raise_pi (e : ErrorBit) : (s.raise e).pi = s.pi := by cases e <;> rfl
@[simp] theorem raise_pr (e : ErrorBit) : (s.raise e).pr = s.pr := by cases e <;> rfl
@[simp] theorem raise_pll (e : ErrorBit) : (s.raise e).pll = s.pll := by cases e <;> rfl
@[simp] theorem raise_svm (e : ErrorBit) : (s.raise e).svm = s.svm := by cases e <;> rfl
@[simp] theorem raise_prot (e : ErrorBit) : (s.raise e).prot = s.prot := by cases e <;> rfl
@[simp] theorem raise_pending (e : ErrorBit) : (s.raise e).pending = s.pending := by cases e <;> rfl
@[simp] theorem raise_resp (e : ErrorBit) : (s.raise e).resp = s.resp := by cases e <;> rfl

/-! ### noteSat -/

@[simp] theorem noteSat_cfgLock (b : Bool) : (s.noteSat b).cfgLock = s.cfgLock := rfl
@[simp] theorem noteSat_ill (b : Bool) : (s.noteSat b).ill = s.ill := rfl
@[simp] theorem noteSat_argerr (b : Bool) : (s.noteSat b).argerr = s.argerr := rfl
@[simp] theorem noteSat_satf (b : Bool) : (s.noteSat b).satf = (s.satf || b) := rfl
@[simp] theorem noteSat_wlock (b : Bool) : (s.noteSat b).wlock = s.wlock := rfl
@[simp] theorem noteSat_ts (b : Bool) : (s.noteSat b).ts = s.ts := rfl
@[simp] theorem noteSat_x (b : Bool) : (s.noteSat b).x = s.x := rfl
@[simp] theorem noteSat_pi (b : Bool) : (s.noteSat b).pi = s.pi := rfl
@[simp] theorem noteSat_pr (b : Bool) : (s.noteSat b).pr = s.pr := rfl
@[simp] theorem noteSat_pll (b : Bool) : (s.noteSat b).pll = s.pll := rfl
@[simp] theorem noteSat_svm (b : Bool) : (s.noteSat b).svm = s.svm := rfl
@[simp] theorem noteSat_prot (b : Bool) : (s.noteSat b).prot = s.prot := rfl
@[simp] theorem noteSat_pending (b : Bool) : (s.noteSat b).pending = s.pending := rfl
@[simp] theorem noteSat_resp (b : Bool) : (s.noteSat b).resp = s.resp := rfl

/-! ### writeX -/

@[simp] theorem writeX_cfgLock (r : RegNo) (v : Word) : (s.writeX r v).cfgLock = s.cfgLock := rfl
@[simp] theorem writeX_ill (r : RegNo) (v : Word) : (s.writeX r v).ill = s.ill := rfl
@[simp] theorem writeX_argerr (r : RegNo) (v : Word) : (s.writeX r v).argerr = s.argerr := rfl
@[simp] theorem writeX_satf (r : RegNo) (v : Word) : (s.writeX r v).satf = s.satf := rfl
@[simp] theorem writeX_wlock (r : RegNo) (v : Word) : (s.writeX r v).wlock = s.wlock := rfl
@[simp] theorem writeX_ts (r : RegNo) (v : Word) : (s.writeX r v).ts = s.ts := rfl
@[simp] theorem writeX_x (r : RegNo) (v : Word) : (s.writeX r v).x = s.x.set r.toNat v r.isLt := rfl
@[simp] theorem writeX_pi (r : RegNo) (v : Word) : (s.writeX r v).pi = s.pi := rfl
@[simp] theorem writeX_pr (r : RegNo) (v : Word) : (s.writeX r v).pr = s.pr := rfl
@[simp] theorem writeX_pll (r : RegNo) (v : Word) : (s.writeX r v).pll = s.pll := rfl
@[simp] theorem writeX_svm (r : RegNo) (v : Word) : (s.writeX r v).svm = s.svm := rfl
@[simp] theorem writeX_prot (r : RegNo) (v : Word) : (s.writeX r v).prot = s.prot := rfl
@[simp] theorem writeX_pending (r : RegNo) (v : Word) : (s.writeX r v).pending = s.pending := rfl
@[simp] theorem writeX_resp (r : RegNo) (v : Word) : (s.writeX r v).resp = s.resp := rfl

/-! ### setPi -/

@[simp] theorem setPi_cfgLock (k : Fin 4) (p : PiUnit) : (s.setPi k p).cfgLock = s.cfgLock := rfl
@[simp] theorem setPi_ill (k : Fin 4) (p : PiUnit) : (s.setPi k p).ill = s.ill := rfl
@[simp] theorem setPi_argerr (k : Fin 4) (p : PiUnit) : (s.setPi k p).argerr = s.argerr := rfl
@[simp] theorem setPi_satf (k : Fin 4) (p : PiUnit) : (s.setPi k p).satf = s.satf := rfl
@[simp] theorem setPi_wlock (k : Fin 4) (p : PiUnit) : (s.setPi k p).wlock = s.wlock := rfl
@[simp] theorem setPi_ts (k : Fin 4) (p : PiUnit) : (s.setPi k p).ts = s.ts := rfl
@[simp] theorem setPi_x (k : Fin 4) (p : PiUnit) : (s.setPi k p).x = s.x := rfl
@[simp] theorem setPi_pi (k : Fin 4) (p : PiUnit) : (s.setPi k p).pi = s.pi.set k p := rfl
@[simp] theorem setPi_pr (k : Fin 4) (p : PiUnit) : (s.setPi k p).pr = s.pr := rfl
@[simp] theorem setPi_pll (k : Fin 4) (p : PiUnit) : (s.setPi k p).pll = s.pll := rfl
@[simp] theorem setPi_svm (k : Fin 4) (p : PiUnit) : (s.setPi k p).svm = s.svm := rfl
@[simp] theorem setPi_prot (k : Fin 4) (p : PiUnit) : (s.setPi k p).prot = s.prot := rfl
@[simp] theorem setPi_pending (k : Fin 4) (p : PiUnit) : (s.setPi k p).pending = s.pending := rfl
@[simp] theorem setPi_resp (k : Fin 4) (p : PiUnit) : (s.setPi k p).resp = s.resp := rfl

/-! ### setPr -/

@[simp] theorem setPr_cfgLock (j : Fin 2) (p : PrUnit) : (s.setPr j p).cfgLock = s.cfgLock := rfl
@[simp] theorem setPr_ill (j : Fin 2) (p : PrUnit) : (s.setPr j p).ill = s.ill := rfl
@[simp] theorem setPr_argerr (j : Fin 2) (p : PrUnit) : (s.setPr j p).argerr = s.argerr := rfl
@[simp] theorem setPr_satf (j : Fin 2) (p : PrUnit) : (s.setPr j p).satf = s.satf := rfl
@[simp] theorem setPr_wlock (j : Fin 2) (p : PrUnit) : (s.setPr j p).wlock = s.wlock := rfl
@[simp] theorem setPr_ts (j : Fin 2) (p : PrUnit) : (s.setPr j p).ts = s.ts := rfl
@[simp] theorem setPr_x (j : Fin 2) (p : PrUnit) : (s.setPr j p).x = s.x := rfl
@[simp] theorem setPr_pi (j : Fin 2) (p : PrUnit) : (s.setPr j p).pi = s.pi := rfl
@[simp] theorem setPr_pr (j : Fin 2) (p : PrUnit) : (s.setPr j p).pr = s.pr.set j p := rfl
@[simp] theorem setPr_pll (j : Fin 2) (p : PrUnit) : (s.setPr j p).pll = s.pll := rfl
@[simp] theorem setPr_svm (j : Fin 2) (p : PrUnit) : (s.setPr j p).svm = s.svm := rfl
@[simp] theorem setPr_prot (j : Fin 2) (p : PrUnit) : (s.setPr j p).prot = s.prot := rfl
@[simp] theorem setPr_pending (j : Fin 2) (p : PrUnit) : (s.setPr j p).pending = s.pending := rfl
@[simp] theorem setPr_resp (j : Fin 2) (p : PrUnit) : (s.setPr j p).resp = s.resp := rfl

/-! ### setPll -/

@[simp] theorem setPll_cfgLock (p : PllUnit) : (s.setPll p).cfgLock = s.cfgLock := rfl
@[simp] theorem setPll_ill (p : PllUnit) : (s.setPll p).ill = s.ill := rfl
@[simp] theorem setPll_argerr (p : PllUnit) : (s.setPll p).argerr = s.argerr := rfl
@[simp] theorem setPll_satf (p : PllUnit) : (s.setPll p).satf = s.satf := rfl
@[simp] theorem setPll_wlock (p : PllUnit) : (s.setPll p).wlock = s.wlock := rfl
@[simp] theorem setPll_ts (p : PllUnit) : (s.setPll p).ts = s.ts := rfl
@[simp] theorem setPll_x (p : PllUnit) : (s.setPll p).x = s.x := rfl
@[simp] theorem setPll_pi (p : PllUnit) : (s.setPll p).pi = s.pi := rfl
@[simp] theorem setPll_pr (p : PllUnit) : (s.setPll p).pr = s.pr := rfl
@[simp] theorem setPll_pll (p : PllUnit) : (s.setPll p).pll = p := rfl
@[simp] theorem setPll_svm (p : PllUnit) : (s.setPll p).svm = s.svm := rfl
@[simp] theorem setPll_prot (p : PllUnit) : (s.setPll p).prot = s.prot := rfl
@[simp] theorem setPll_pending (p : PllUnit) : (s.setPll p).pending = s.pending := rfl
@[simp] theorem setPll_resp (p : PllUnit) : (s.setPll p).resp = s.resp := rfl

/-! ### setSvm -/

@[simp] theorem setSvm_cfgLock (p : SvmUnit) : (s.setSvm p).cfgLock = s.cfgLock := rfl
@[simp] theorem setSvm_ill (p : SvmUnit) : (s.setSvm p).ill = s.ill := rfl
@[simp] theorem setSvm_argerr (p : SvmUnit) : (s.setSvm p).argerr = s.argerr := rfl
@[simp] theorem setSvm_satf (p : SvmUnit) : (s.setSvm p).satf = s.satf := rfl
@[simp] theorem setSvm_wlock (p : SvmUnit) : (s.setSvm p).wlock = s.wlock := rfl
@[simp] theorem setSvm_ts (p : SvmUnit) : (s.setSvm p).ts = s.ts := rfl
@[simp] theorem setSvm_x (p : SvmUnit) : (s.setSvm p).x = s.x := rfl
@[simp] theorem setSvm_pi (p : SvmUnit) : (s.setSvm p).pi = s.pi := rfl
@[simp] theorem setSvm_pr (p : SvmUnit) : (s.setSvm p).pr = s.pr := rfl
@[simp] theorem setSvm_pll (p : SvmUnit) : (s.setSvm p).pll = s.pll := rfl
@[simp] theorem setSvm_svm (p : SvmUnit) : (s.setSvm p).svm = p := rfl
@[simp] theorem setSvm_prot (p : SvmUnit) : (s.setSvm p).prot = s.prot := rfl
@[simp] theorem setSvm_pending (p : SvmUnit) : (s.setSvm p).pending = s.pending := rfl
@[simp] theorem setSvm_resp (p : SvmUnit) : (s.setSvm p).resp = s.resp := rfl

/-! ### setProt -/

@[simp] theorem setProt_cfgLock (p : ProtUnit) : (s.setProt p).cfgLock = s.cfgLock := rfl
@[simp] theorem setProt_ill (p : ProtUnit) : (s.setProt p).ill = s.ill := rfl
@[simp] theorem setProt_argerr (p : ProtUnit) : (s.setProt p).argerr = s.argerr := rfl
@[simp] theorem setProt_satf (p : ProtUnit) : (s.setProt p).satf = s.satf := rfl
@[simp] theorem setProt_wlock (p : ProtUnit) : (s.setProt p).wlock = s.wlock := rfl
@[simp] theorem setProt_ts (p : ProtUnit) : (s.setProt p).ts = s.ts := rfl
@[simp] theorem setProt_x (p : ProtUnit) : (s.setProt p).x = s.x := rfl
@[simp] theorem setProt_pi (p : ProtUnit) : (s.setProt p).pi = s.pi := rfl
@[simp] theorem setProt_pr (p : ProtUnit) : (s.setProt p).pr = s.pr := rfl
@[simp] theorem setProt_pll (p : ProtUnit) : (s.setProt p).pll = s.pll := rfl
@[simp] theorem setProt_svm (p : ProtUnit) : (s.setProt p).svm = s.svm := rfl
@[simp] theorem setProt_prot (p : ProtUnit) : (s.setProt p).prot = p := rfl
@[simp] theorem setProt_pending (p : ProtUnit) : (s.setProt p).pending = s.pending := rfl
@[simp] theorem setProt_resp (p : ProtUnit) : (s.setProt p).resp = s.resp := rfl

/-! ### respond -/

@[simp] theorem respond_cfgLock (r : BusResponse) : (s.respond r).cfgLock = s.cfgLock := rfl
@[simp] theorem respond_ill (r : BusResponse) : (s.respond r).ill = s.ill := rfl
@[simp] theorem respond_argerr (r : BusResponse) : (s.respond r).argerr = s.argerr := rfl
@[simp] theorem respond_satf (r : BusResponse) : (s.respond r).satf = s.satf := rfl
@[simp] theorem respond_wlock (r : BusResponse) : (s.respond r).wlock = s.wlock := rfl
@[simp] theorem respond_ts (r : BusResponse) : (s.respond r).ts = s.ts := rfl
@[simp] theorem respond_x (r : BusResponse) : (s.respond r).x = s.x := rfl
@[simp] theorem respond_pi (r : BusResponse) : (s.respond r).pi = s.pi := rfl
@[simp] theorem respond_pr (r : BusResponse) : (s.respond r).pr = s.pr := rfl
@[simp] theorem respond_pll (r : BusResponse) : (s.respond r).pll = s.pll := rfl
@[simp] theorem respond_svm (r : BusResponse) : (s.respond r).svm = s.svm := rfl
@[simp] theorem respond_prot (r : BusResponse) : (s.respond r).prot = s.prot := rfl
@[simp] theorem respond_pending (r : BusResponse) : (s.respond r).pending = s.pending := rfl
@[simp] theorem respond_resp (r : BusResponse) : (s.respond r).resp = r := rfl

/-! ### clearStatus -/

@[simp] theorem clearStatus_cfgLock (v : Word) : (s.clearStatus v).cfgLock = s.cfgLock := rfl
@[simp] theorem clearStatus_ill (v : Word) : (s.clearStatus v).ill = (s.ill && !v.getLsbD 0) := rfl
@[simp] theorem clearStatus_argerr (v : Word) : (s.clearStatus v).argerr = (s.argerr && !v.getLsbD 1) := rfl
@[simp] theorem clearStatus_satf (v : Word) : (s.clearStatus v).satf = (s.satf && !v.getLsbD 2) := rfl
@[simp] theorem clearStatus_wlock (v : Word) : (s.clearStatus v).wlock = (s.wlock && !v.getLsbD 3) := rfl
@[simp] theorem clearStatus_ts (v : Word) : (s.clearStatus v).ts = s.ts := rfl
@[simp] theorem clearStatus_x (v : Word) : (s.clearStatus v).x = s.x := rfl
@[simp] theorem clearStatus_pi (v : Word) : (s.clearStatus v).pi = s.pi := rfl
@[simp] theorem clearStatus_pr (v : Word) : (s.clearStatus v).pr = s.pr := rfl
@[simp] theorem clearStatus_pll (v : Word) : (s.clearStatus v).pll = s.pll := rfl
@[simp] theorem clearStatus_svm (v : Word) : (s.clearStatus v).svm = s.svm := rfl
@[simp] theorem clearStatus_prot (v : Word) : (s.clearStatus v).prot = s.prot := rfl
@[simp] theorem clearStatus_pending (v : Word) : (s.clearStatus v).pending = s.pending := rfl
@[simp] theorem clearStatus_resp (v : Word) : (s.clearStatus v).resp = s.resp := rfl

/-! ### writeCtrl -/

@[simp] theorem writeCtrl_cfgLock (v : Word) : (s.writeCtrl v).cfgLock = (s.cfgLock || v.getLsbD 0) := rfl
@[simp] theorem writeCtrl_ill (v : Word) : (s.writeCtrl v).ill = s.ill := rfl
@[simp] theorem writeCtrl_argerr (v : Word) : (s.writeCtrl v).argerr = s.argerr := rfl
@[simp] theorem writeCtrl_satf (v : Word) : (s.writeCtrl v).satf = s.satf := rfl
@[simp] theorem writeCtrl_wlock (v : Word) : (s.writeCtrl v).wlock = s.wlock := rfl
@[simp] theorem writeCtrl_ts (v : Word) : (s.writeCtrl v).ts = s.ts := rfl
@[simp] theorem writeCtrl_x (v : Word) : (s.writeCtrl v).x = s.x := rfl
@[simp] theorem writeCtrl_pi (v : Word) : (s.writeCtrl v).pi = s.pi := rfl
@[simp] theorem writeCtrl_pr (v : Word) : (s.writeCtrl v).pr = s.pr := rfl
@[simp] theorem writeCtrl_pll (v : Word) : (s.writeCtrl v).pll = s.pll := rfl
@[simp] theorem writeCtrl_svm (v : Word) : (s.writeCtrl v).svm = s.svm := rfl
@[simp] theorem writeCtrl_prot (v : Word) : (s.writeCtrl v).prot = s.prot := rfl
@[simp] theorem writeCtrl_pending (v : Word) : (s.writeCtrl v).pending = s.pending := rfl
@[simp] theorem writeCtrl_resp (v : Word) : (s.writeCtrl v).resp = s.resp := rfl

/-! ### The bit an error raises -/

@[simp] theorem raise_ill_bit (e : ErrorBit) : (s.raise e).ill = (s.ill || e == .ill) := by
  cases e <;> simp [State.raise]
@[simp] theorem raise_argerr_bit (e : ErrorBit) : (s.raise e).argerr = (s.argerr || e == .argerr) := by
  cases e <;> simp [State.raise]
@[simp] theorem raise_wlock_bit (e : ErrorBit) : (s.raise e).wlock = (s.wlock || e == .wlock) := by
  cases e <;> simp [State.raise]

end Sys2Proof.Machine.State
end

