-- ==== Sys2Proof/Laws/Operands.lean ====
section
/-! SUPPORT. What the operand forms do: reading a data register after writes, instances, and the two
outcomes of a command with an operand check. -/

namespace Sys2Proof.Machine

theorem State.readX_writeX (s : State) (r q : RegNo) (v : Word) :
    (s.writeX r v).readX q = if q = r then v else s.readX q := by
  unfold State.readX State.writeX
  by_cases h : q = r
  · subst h; simp
  · have : ¬ r.toNat = q.toNat := fun e => h (BitVec.eq_of_toNat_eq e.symm)
    simp [h, this]

@[simp] theorem State.readX_writeX_self (s : State) (r : RegNo) (v : Word) :
    (s.writeX r v).readX r = v := by simp [State.readX_writeX]

/-- Reading after two destination writes; the two registers are distinct. -/
theorem State.readX_writeX2 (s : State) (rd q : RegNo) (v0 v1 : Word) :
    (s.writeX2 rd v0 v1).readX q = if q = rd + 1 then v1 else if q = rd then v0 else s.readX q := by
  simp [State.writeX2, State.readX_writeX]

/-- Reading after three destination writes; the three registers are distinct. -/
theorem State.readX_writeX3 (s : State) (rd q : RegNo) (v0 v1 v2 : Word) :
    (s.writeX3 rd v0 v1 v2).readX q =
      if q = rd + 2 then v2 else if q = rd + 1 then v1 else if q = rd then v0 else s.readX q := by
  simp [State.writeX3, State.readX_writeX]

/-- The destinations of one command are distinct, whatever `RD` is (30_encoding.md R179). -/
theorem span_distinct (rd : RegNo) : rd + 1 ≠ rd ∧ rd + 2 ≠ rd ∧ rd + 2 ≠ rd + 1 := by
  revert rd; decide

theorem State.writeX_eq (s : State) (r : RegNo) (v : Word) :
    s.writeX r v = { s with x := (s.writeX r v).x } := rfl

theorem State.writeX2_eq (s : State) (rd : RegNo) (v0 v1 : Word) :
    s.writeX2 rd v0 v1 = { s with x := (s.writeX2 rd v0 v1).x } := rfl

theorem State.writeX3_eq (s : State) (rd : RegNo) (v0 v1 v2 : Word) :
    s.writeX3 rd v0 v1 v2 = { s with x := (s.writeX3 rd v0 v1 v2).x } := rfl

@[simp] theorem State.readX_noteSat (s : State) (b : Bool) (r : RegNo) :
    (s.noteSat b).readX r = s.readX r := rfl

@[simp] theorem State.readX_setPi (s : State) (k : Fin 4) (p : PiUnit) (r : RegNo) :
    (s.setPi k p).readX r = s.readX r := rfl

@[simp] theorem State.readX_setPr (s : State) (j : Fin 2) (p : PrUnit) (r : RegNo) :
    (s.setPr j p).readX r = s.readX r := rfl

@[simp] theorem State.readX_setPll (s : State) (p : PllUnit) (r : RegNo) :
    (s.setPll p).readX r = s.readX r := rfl

@[simp] theorem State.readX_setSvm (s : State) (p : SvmUnit) (r : RegNo) :
    (s.setSvm p).readX r = s.readX r := rfl

@[simp] theorem State.readX_setProt (s : State) (p : ProtUnit) (r : RegNo) :
    (s.setProt p).readX r = s.readX r := rfl

@[simp] theorem State.readX_respond (s : State) (a : BusResponse) (r : RegNo) :
    (s.respond a).readX r = s.readX r := rfl

@[simp] theorem State.readX_raise (s : State) (e : ErrorBit) (r : RegNo) :
    (s.raise e).readX r = s.readX r := by cases e <;> rfl

theorem piInstance_eq_some (k : InstNo) (i : Fin 4) : piInstance k = some i ↔ k.toNat = i.val := by
  unfold piInstance
  split
  · simp [Fin.ext_iff]
  · have := i.isLt; simp; omega

theorem piInstance_eq_none (k : InstNo) : piInstance k = none ↔ 4 ≤ k.toNat := by
  unfold piInstance
  split <;> simp <;> omega

theorem prInstance_eq_some (j : InstNo) (i : Fin 2) : prInstance j = some i ↔ j.toNat = i.val := by
  unfold prInstance
  split
  · simp [Fin.ext_iff]
  · have := i.isLt; simp; omega

theorem prInstance_eq_none (j : InstNo) : prInstance j = none ↔ 2 ≤ j.toNat := by
  unfold prInstance
  split <;> simp <;> omega

/-- What a command with an operand check can answer. -/
theorem whenLegal_next (ok : Bool) (s d t : State) :
    whenLegal ok s d = .next t ↔ (ok = true ∧ t = d) ∨ (ok = false ∧ t = s.raise .ill) := by
  cases ok <;> simp [whenLegal, eq_comm]

/-- What a command on a PI instance can answer. -/
theorem onPi_next (k : InstNo) (s t : State) (f : Fin 4 → State) :
    onPi k s f = .next t ↔ (∃ i, k.toNat = i.val ∧ t = f i) ∨ (4 ≤ k.toNat ∧ t = s.raise .ill) := by
  unfold onPi
  cases h : piInstance k with
  | none =>
    rw [piInstance_eq_none] at h
    constructor
    · intro e; right; exact ⟨h, by simpa using e.symm⟩
    · rintro (⟨i, e, -⟩ | ⟨-, rfl⟩)
      · have := i.isLt; omega
      · rfl
  | some i =>
    rw [piInstance_eq_some] at h
    constructor
    · intro e; left; exact ⟨i, h, by simpa using e.symm⟩
    · rintro (⟨i', e, rfl⟩ | ⟨hk, -⟩)
      · have : i' = i := Fin.ext (by omega)
        subst this; rfl
      · have := i.isLt; omega

/-- What a command on a PR instance can answer. -/
theorem onPr_next (j : InstNo) (s t : State) (f : Fin 2 → State) :
    onPr j s f = .next t ↔ (∃ i, j.toNat = i.val ∧ t = f i) ∨ (2 ≤ j.toNat ∧ t = s.raise .ill) := by
  unfold onPr
  cases h : prInstance j with
  | none =>
    rw [prInstance_eq_none] at h
    constructor
    · intro e; right; exact ⟨h, by simpa using e.symm⟩
    · rintro (⟨i, e, -⟩ | ⟨-, rfl⟩)
      · have := i.isLt; omega
      · rfl
  | some i =>
    rw [prInstance_eq_some] at h
    constructor
    · intro e; left; exact ⟨i, h, by simpa using e.symm⟩
    · rintro (⟨i', e, rfl⟩ | ⟨hk, -⟩)
      · have : i' = i := Fin.ext (by omega)
        subst this; rfl
      · have := i.isLt; omega

/-- The registers of the other PI instances are untouched. -/
theorem State.setPi_get (s : State) (k i : Fin 4) (p : PiUnit) :
    (s.setPi k p).pi[i] = if i = k then p else s.pi[i] := by
  by_cases h : i = k
  · subst h; simp [State.setPi]
  · have : ¬ k.val = i.val := fun e => h (Fin.ext e.symm)
    simp [State.setPi, h, this]

/-- The registers of the other PR instance are untouched. -/
theorem State.setPr_get (s : State) (k i : Fin 2) (p : PrUnit) :
    (s.setPr k p).pr[i] = if i = k then p else s.pr[i] := by
  by_cases h : i = k
  · subst h; simp [State.setPr]
  · have : ¬ k.val = i.val := fun e => h (Fin.ext e.symm)
    simp [State.setPr, h, this]

/-- A word holds every integer of its signed range. -/
theorem sv_toWord (v : Int) (h1 : min32 ≤ v) (h2 : v ≤ max32) : sv (toWord v) = v := by
  simp only [sv, toWord, min32, max32] at *
  rw [BitVec.toInt_ofInt]
  exact Int.bmod_eq_of_le (by omega) (by omega)

@[simp] theorem toWord_sv (w : Word) : toWord (sv w) = w := by simp [toWord, sv]

theorem sv_range (w : Word) : min32 ≤ sv w ∧ sv w ≤ max32 := by
  have h1 := BitVec.le_toInt w
  have h2 := BitVec.toInt_lt (x := w)
  simp only [sv, min32, max32]
  constructor <;> omega

end Sys2Proof.Machine
end

