-- ==== Sys2Proof/Laws/Bus.lean ====
section
/-! SUPPORT. What the host port and the step do, one lemma per operation. -/

namespace Sys2Proof.Machine

theorem execute_ok {w : Word} {i : Instr} (h : decode w = .ok i) (s : State) : execute w s = exec i s := by
  simp [execute, h]

theorem execute_error {w : Word} {e : Illegal} (h : decode w = .error e) (s : State) :
    execute w s = .next (s.raise .ill) := by
  simp [execute, h]

/-- An idle bus leaves the state as it is. -/
theorem step_idle {s : State} (h : s.pending = []) : step s = .next s := by
  simp [step, State.takeEvent, h]

/-- A step is the next event of the host, taken from the queue. -/
theorem step_event {s : State} {e : HostEvent} {rest : List HostEvent} (h : s.pending = e :: rest) :
    step s = hostEvent e { s with pending := rest } := by
  simp [step, State.takeEvent, h]

/-- What a write of the window can do (20_memory.md R136). -/
theorem memWrite_cases (off : BitVec 12) (n : Nat) (v : Word) (s : State) :
    (legalAccess off n = false ∧ memWrite off n v s = .next (s.respond .busError)) ∨
    (legalAccess off n = true ∧ regAt off.toNat = .cmd ∧ memWrite off n v s = execute v (s.respond .okay)) ∨
    (legalAccess off n = true ∧ regAt off.toNat ≠ .cmd ∧
      memWrite off n v s = .next ((s.writeReg (regAt off.toNat) v).respond .okay)) := by
  unfold memWrite
  cases legalAccess off n
  · simp
  · cases h : regAt off.toNat <;> simp

/-- What a write to a `CFG` register does (20_memory.md R134). -/
theorem State.writeCfg_cases (r : WinReg) (v : Word) (s : State) :
    (s.cfgLock = true ∧ s.writeCfg r v = s.raise .wlock) ∨
    (s.cfgLock = false ∧ s.writeCfg r v = s.storeCfg r v) := by
  unfold State.writeCfg
  cases s.cfgLock <;> simp

/-- A write to a register of type `CFG` is a configuration write. -/
theorem State.writeReg_cfg (r : WinReg) (v : Word) (s : State) (h : r.access = .cfg) :
    s.writeReg r v = s.writeCfg r v := by
  cases r with
  | ts => rfl
  | pi k r => simp [State.writeReg, h]
  | pr j r => simp [State.writeReg, h]
  | pll r => simp [State.writeReg, h]
  | prot r => simp [State.writeReg, h]
  | _ => simp [WinReg.access] at h

/-- A write to a read-only or unmapped register is ignored (20_memory.md R134). -/
theorem State.writeReg_ro (r : WinReg) (v : Word) (s : State) (h : r.access = .ro ∨ r.access = .razWi) :
    s.writeReg r v = s := by
  cases r with
  | pi k r => cases r <;> simp_all [State.writeReg, WinReg.access, PiReg.isCfg]
  | pr j r => cases r <;> simp_all [State.writeReg, WinReg.access, PrReg.isCfg]
  | pll r => cases r <;> simp_all [State.writeReg, WinReg.access, PllReg.isCfg]
  | prot r => cases r <;> simp_all [State.writeReg, WinReg.access, ProtReg.isCfg]
  | _ => simp_all [State.writeReg, WinReg.access]

end Sys2Proof.Machine
end

