-- ==== Sys2Proof/Laws/Numerics.lean ====
section
/-! SUPPORT. What the arithmetic operations can answer: saturation, clamp, the sector code, debounce. -/

namespace Sys2Proof.Machine

theorem sat32_range (x : Int) : min32 ≤ sat32 x ∧ sat32 x ≤ max32 := by
  unfold sat32 min32 max32
  split <;> [skip; split] <;> omega

theorem sat32_of_range {x : Int} (h1 : min32 ≤ x) (h2 : x ≤ max32) : sat32 x = x := by
  unfold sat32 min32 max32 at *
  split <;> [skip; split] <;> omega

theorem clips32_eq_false (x : Int) : clips32 x = false ↔ min32 ≤ x ∧ x ≤ max32 := by
  simp [clips32]
  constructor <;> rintro ⟨a, b⟩ <;> exact ⟨b, a⟩

/-- The flag of a saturation is set exactly when the value changes (40_numerics.md R212). -/
theorem clips32_iff (x : Int) : clips32 x = true ↔ sat32 x ≠ x := by
  unfold clips32 sat32 min32 max32
  simp only [Bool.or_eq_true, decide_eq_true_eq]
  split <;> [skip; split] <;> omega

theorem sat64_range (x : Int) : min64 ≤ sat64 x ∧ sat64 x ≤ max64 := by
  unfold sat64 min64 max64
  split <;> [skip; split] <;> omega

/-- The flag of a 64-bit saturation is set exactly when the value changes (40_numerics.md R213). -/
theorem clips64_iff (x : Int) : clips64 x = true ↔ sat64 x ≠ x := by
  unfold clips64 sat64 min64 max64
  simp only [Bool.or_eq_true, decide_eq_true_eq]
  split <;> [skip; split] <;> omega

@[simp] theorem sv_satWord (x : Int) : sv (satWord x) = sat32 x :=
  sv_toWord _ (sat32_range x).1 (sat32_range x).2

/-- A clamp with consistent bounds lies within them (40_numerics.md R221). -/
theorem clamp_mem (x lo hi : Int) (h : lo ≤ hi) : lo ≤ clamp x lo hi ∧ clamp x lo hi ≤ hi := by
  unfold clamp
  split <;> [skip; split] <;> omega

/-- A clamp answers one of its bounds or its argument. -/
theorem clamp_cases (x lo hi : Int) : clamp x lo hi = hi ∨ clamp x lo hi = lo ∨ clamp x lo hi = x := by
  unfold clamp
  split <;> [skip; split] <;> simp

/-- A clamp with inconsistent bounds answers one of them (40_numerics.md R221). -/
theorem clamp_of_lt (x lo hi : Int) (h : hi < lo) : clamp x lo hi = if x > hi then hi else lo := by
  unfold clamp
  split
  · rfl
  · rw [if_pos]; omega

/-- Sector code 7 cannot occur (45_svm.md R371). -/
theorem svmSector_le_six (an bn : Int) : svmSector an bn ≤ 6 := by
  unfold svmSector
  dsimp only
  split <;> split <;> split <;> omega

/-- What the debounce of one class answers (46_protection.md R401). -/
theorem debounce_cases (raw : Bool) (cnt limit : BitVec 16) :
    (raw = false ∧ debounce raw cnt limit = (0, false)) ∨
    (raw = true ∧ cnt.toNat < limit.toNat ∧ debounce raw cnt limit = (cnt + 1, false)) ∨
    (raw = true ∧ limit.toNat ≤ cnt.toNat ∧ debounce raw cnt limit = (cnt, true)) := by
  cases raw
  · simp [debounce]
  · by_cases h : cnt.toNat < limit.toNat
    · simp [debounce, h]
    · simp [debounce, h]; omega

end Sys2Proof.Machine
end

