-- ==== Sys2Proof/Laws/PerInstr.lean ====
section
/-! SUPPORT. Family EncodeFixedBits: every command's word has its opcode in bits 7:0 and zero in the
reserved bits 31:28 (30_encoding.md R171, R176). -/

namespace Sys2Proof

/-- The fields of an encoded word are those it was put together from. -/
theorem fieldsOf_cmd32 (op : BitVec 8) (rd rs1 rs2 rs3 : RegNo) (inst : InstNo) :
    fieldsOf (cmd32 op rd rs1 rs2 rs3 inst) = ⟨op, rd, rs1, rs2, rs3, inst, 0⟩ := by
  simp only [fieldsOf, cmd32, Fields.mk.injEq]
  refine ⟨?_, ?_, ?_, ?_, ?_, ?_, ?_⟩ <;>
  · ext i hi
    simp only [BitVec.getElem_extractLsb', BitVec.getLsbD_append]
    interval_cases i <;> simp [BitVec.getLsbD_eq_getElem]

namespace Laws.EncodeFixedBits

/-- The fixed bits of a command's word. -/
def Statement (i : Instr) : Prop :=
  (fieldsOf (encode i)).op = i.opcode ∧ (fieldsOf (encode i)).reserved = 0

theorem clarke (rd rs1 rs2 rs3 : RegNo) : Statement (.clarke rd rs1 rs2 rs3) := by
  simp [Statement, encode, fieldsOf_cmd32]

theorem iclarke (rd rs1 rs2 : RegNo) : Statement (.iclarke rd rs1 rs2) := by
  simp [Statement, encode, fieldsOf_cmd32]

theorem park (rd rs1 rs2 rs3 : RegNo) : Statement (.park rd rs1 rs2 rs3) := by
  simp [Statement, encode, fieldsOf_cmd32]

theorem ipark (rd rs1 rs2 rs3 : RegNo) : Statement (.ipark rd rs1 rs2 rs3) := by
  simp [Statement, encode, fieldsOf_cmd32]

theorem piUpd (rd rs1 rs2 : RegNo) (k : InstNo) : Statement (.piUpd rd rs1 rs2 k) := by
  simp [Statement, encode, fieldsOf_cmd32]

theorem piRst (k : InstNo) : Statement (.piRst k) := by
  simp [Statement, encode, fieldsOf_cmd32]

theorem prUpd (rd rs1 rs2 : RegNo) (j : InstNo) : Statement (.prUpd rd rs1 rs2 j) := by
  simp [Statement, encode, fieldsOf_cmd32]

theorem prRst (j : InstNo) : Statement (.prRst j) := by
  simp [Statement, encode, fieldsOf_cmd32]

theorem prSetf (rs1 : RegNo) (j : InstNo) : Statement (.prSetf rs1 j) := by
  simp [Statement, encode, fieldsOf_cmd32]

theorem pllUpd (rd rs1 rs2 : RegNo) : Statement (.pllUpd rd rs1 rs2) := by
  simp [Statement, encode, fieldsOf_cmd32]

theorem pllRst : Statement .pllRst := by
  simp [Statement, encode, fieldsOf_cmd32]

theorem svmCalc (rd rs1 rs2 rs3 : RegNo) : Statement (.svmCalc rd rs1 rs2 rs3) := by
  simp [Statement, encode, fieldsOf_cmd32]

theorem svmMid : Statement .svmMid := by
  simp [Statement, encode, fieldsOf_cmd32]

theorem protUpd (rd rs1 : RegNo) : Statement (.protUpd rd rs1) := by
  simp [Statement, encode, fieldsOf_cmd32]

theorem protClr : Statement .protClr := by
  simp [Statement, encode, fieldsOf_cmd32]

theorem protSet (rs1 : RegNo) : Statement (.protSet rs1) := by
  simp [Statement, encode, fieldsOf_cmd32]

end Laws.EncodeFixedBits

end Sys2Proof
end

