-- ==== Sys2Proof/Tests/Slice0.lean ====
section
/-! SUPPORT. Tests on fixed values, and a witness for the hypotheses of each statement. Expected values come
from the spec: 30_encoding.md section 5, 95_test_vectors.md and the Example lines of the command rules, or by
hand from the field table of 30_encoding.md R171. -/

namespace Sys2Proof.Tests

open Sys2Proof Sys2Proof.Machine

/-! ### WellFormed refuses an ill-formed term for each check -/

/-- Spans (30_encoding.md R173): one past each bound is refused, the bound itself is not. -/
theorem test_spans :
    [Instr.clarke 15 0 1 2, .iclarke 14 0 1, .park 15 0 1 2, .ipark 15 0 1 2, .pllUpd 15 0 1, .svmCalc 14 0 1 2,
      .protUpd 0 12].all (fun i => !i.spansFit && !i.wellFormed) = true ∧
    [Instr.clarke 14 0 1 2, .iclarke 13 0 1, .park 14 0 1 2, .ipark 14 0 1 2, .pllUpd 14 0 1, .svmCalc 13 0 1 2,
      .protUpd 0 11, .piUpd 15 15 15 3, .prUpd 15 15 15 1].all Instr.wellFormed = true := by decide

/-- Instances (30_encoding.md R174): one past each bound is refused, the bound itself is not. -/
theorem test_instances :
    [Instr.piUpd 0 0 1 4, .piRst 4, .prUpd 0 0 1 2, .prRst 2, .prSetf 0 2].all
      (fun i => !i.instanceExists && !i.wellFormed) = true ∧
    [Instr.piUpd 0 0 1 3, .piRst 3, .prUpd 0 0 1 1, .prRst 1, .prSetf 0 1].all Instr.wellFormed = true := by
  decide

/-! ### Decoding: words written out from the field table -/

/-- One word for every command; 30_encoding.md section 5 or by hand from R171 and R176. -/
def handWords : List (Word × Instr) :=
  [(0x00210401, .clarke 4 0 1 2), (0x00010D02, .iclarke 13 0 1), (0x00354603, .park 6 4 5 3),
    (0x00A98704, .ipark 7 8 9 10), (0x03076810, .piUpd 8 6 7 3), (0x02000011, .piRst 2),
    (0x01076820, .prUpd 8 6 7 1), (0x01000021, .prRst 1), (0x01005022, .prSetf 5 1)] ++
  [(0x00010230, .pllUpd 2 0 1), (0x00000031, .pllRst), (0x00210440, .svmCalc 4 0 1 2), (0x00000041, .svmMid),
    (0x0000B050, .protUpd 0 11), (0x00000051, .protClr), (0x00001052, .protSet 1)]

theorem test_decode_words : ∀ p ∈ handWords, (decode p.1).toOption = some p.2 := by decide

theorem test_encode_words : ∀ p ∈ handWords, encode p.2 = p.1 := by decide

theorem test_decode_table_words : ∀ p ∈ handWords, decodeTableWord 32 p.1.toNat = some p.2 := by decide

/-- The illegal words of 30_encoding.md section 5, each with the reason of its row. -/
theorem test_decode_illegal :
    decode 0x00000000 = .error .unassignedOpcode ∧ decode 0x00000005 = .error .unassignedOpcode ∧
    decode 0x00000131 = .error .unusedField ∧ decode 0x10000041 = .error .unusedField ∧
    decode 0x00010E02 = .error .registerSpan ∧ decode 0x0000C050 = .error .registerSpan ∧
    decode 0x00010F30 = .error .registerSpan ∧ decode 0x04076810 = .error .instanceRange ∧
    decode 0x02076820 = .error .instanceRange := by
  refine ⟨rfl, rfl, rfl, rfl, rfl, rfl, rfl, rfl, rfl⟩

/-- The opcode map has 16 rows, no two of which share a word (30_encoding.md R176). -/
theorem test_opcode_rows : opcodeRows.length = 16 ∧
    opcodeRows.Pairwise (fun r q => r.pattern &&& q.mask ≠ q.pattern &&& r.mask) := by decide

/-! ### Arithmetic (95_test_vectors.md section 2) -/

theorem test_rnd : [rnd 16 98304, rnd 16 (-98304), rnd 16 32768, rnd 16 (-32768), rnd 16 32767, rnd 16 (-32769),
    rnd 1 5, rnd 1 (-5)] = [2, -1, 1, 0, 0, -1, 3, -2] := by decide +kernel

theorem test_sat32 : sat32 2147483648 = 2147483647 ∧ clips32 2147483648 = true ∧
    sat32 (-2147483648) = -2147483648 ∧ clips32 (-2147483648) = false ∧
    sat32 (-2147483649) = -2147483648 ∧ clips32 (-2147483649) = true := by decide +kernel

theorem test_divt_isqrt : [divt 7 2, divt (-7) 2, divt 7 (-2), divt (-7) (-2), divt 0 5] = [3, -3, -3, 3, 0] ∧
    [isqrt 0, isqrt 1, isqrt 3, isqrt 4, isqrt 42949672960000, isqrt 9223372036854775808] =
      [0, 1, 1, 2, 6553600, 3037000499] := by decide +kernel

theorem test_sincos : sincos 0 = (1073741826, -76) ∧ sincos 0x15555555 = (929887747, 536870828) ∧
    sincos 0x40000000 = (76, 1073741826) ∧ sincos 0x80000000 = (-1073741826, 76) ∧
    sincos 0xFFFFFFFF = (1073741826, 76) := by decide +kernel

theorem test_clamp_angstep : clamp 20 (-10) 10 = 10 ∧ clamp (-20) 10 (-10) = 10 ∧ clamp 0 10 (-10) = -10 ∧
    angStep (sv 0x013A28C6) 429497 = 21474850 := by decide +kernel

/-! ### One step of each command -/

/-- The state after a command (every command has one, by `exec_after`). -/
def after (i : Instr) (s : State) : State :=
  match exec i s with
  | .next t => t
  | _ => s

theorem exec_after (i : Instr) (s : State) : exec i s = .next (after i s) := by cases i <;> rfl

/-- `X0`, `X1`, ... and the sampling period of 95_test_vectors.md in a state that is otherwise reset. -/
def withX (v : List Word) : State :=
  { State.reset with ts := 429497, x := Vector.ofFn fun r => v.getD r.val 0 }

theorem test_clarke :
    let t := after (.clarke 4 0 1 2) (withX [0x00640000, 0xFFCE0000, 0xFFCE0000])
    t.readX 4 = 0x00640000 ∧ t.readX 5 = 0 ∧ t.readX 0 = 0x00640000 ∧ t.satf = false := by decide +kernel

theorem test_iclarke :
    let t := after (.iclarke 2 0 1) (withX [0, 0x00640000])
    t.readX 2 = 0 ∧ t.readX 3 = 0x00569A40 ∧ t.readX 4 = 0xFFA965C0 := by decide +kernel

theorem test_park :
    let t := after (.park 3 0 1 2) (withX [0x00640000, 0, 0x20000000])
    t.readX 3 = 0x0046B5EF ∧ t.readX 4 = 0xFFB94A11 := by decide +kernel

theorem test_ipark :
    let t := after (.ipark 3 0 1 2) (withX [0x00640000, 0, 0x20000000])
    t.readX 3 = 0x0046B5EF ∧ t.readX 4 = 0x0046B5EF := by decide +kernel

/-- A destination that is a source: operands are read first (30_encoding.md R178). -/
theorem test_park_in_place :
    let t := after (.park 0 0 1 2) (withX [0x00640000, 0, 0x20000000])
    t.readX 0 = 0x0046B5EF ∧ t.readX 1 = 0xFFB94A11 ∧ t.readX 2 = 0x20000000 := by decide +kernel

/-- `PI[0]` of 95_test_vectors.md section 3, with a given integrator. -/
def piState (integ : Word) (v : List Word) : State :=
  (withX v).setPi 0 ⟨0x00010000, 0x00640000, 0x000A0000, 0xFFF60000, integ, 0, 0, false⟩

/-- Row 1. -/
theorem test_pi_upd :
    let t := after (.piUpd 2 0 1 0) (piState 0 [0x00050000, 0])
    t.readX 2 = 0x00050CCD ∧ t.pi[0].out = 0x00050CCD ∧ t.pi[0].integ = 0x00000CCD ∧
      t.pi[0].perr = 0x00050000 ∧ t.pi[0].sat = false := by decide +kernel

/-- Row 5: at the low clamp with a negative error the integrator is held. -/
theorem test_pi_upd_clamped :
    let t := after (.piUpd 2 0 1 0) (piState 0x0000199A [0xFFE20000, 0])
    t.readX 2 = 0xFFF60000 ∧ t.pi[0].integ = 0x0000199A ∧ t.pi[0].perr = 0xFFE20000 ∧
      t.pi[0].sat = true := by decide +kernel

theorem test_pi_rst :
    let t := after (.piRst 0) (after (.piUpd 2 0 1 0) (piState 0 [0x00050000, 0]))
    t.pi[0] = ⟨0x00010000, 0x00640000, 0x000A0000, 0xFFF60000, 0, 0, 0, false⟩ := by decide +kernel

/-- `PR[0]` of 95_test_vectors.md section 4, untuned. -/
def prState (v : List Word) : State :=
  (withX v).setPr 0 { PrUnit.reset with
    kp := 0x00010000, kr := 0x000A0000, wc := 0x00050000, umax := 0x00640000, umin := 0xFF9C0000 }

theorem test_pr_setf :
    let p := (after (.prSetf 0 0) (prState [0x013A28C6])).pr[0]
    p.w0 = 0x013A28C6 ∧ p.b0 = 0x00082F97 ∧ p.b1 = 0 ∧ p.b2 = 0xFFF7D069 ∧ p.a1 = 0x80208877 ∧
      p.a2 = 0x3FEFA0D0 := by decide +kernel

/-- A denominator that is not positive (section 4.1, corner cases). -/
theorem test_pr_setf_argerr :
    let s := (withX [0]).setPr 1 { PrUnit.reset with wc := 0x8AD00000 }
    after (.prSetf 0 1) s = { s with argerr := true } := by decide +kernel

/-- Row 1. -/
theorem test_pr_upd :
    let s := after (.prSetf 0 0) (prState [0x013A28C6, 0, 0, 0x00010000])
    let t := after (.prUpd 2 3 1 0) s
    t.readX 2 = 0x0001014A ∧ t.pr[0].w1 = 0x0000000100000000 ∧ t.pr[0].w2 = 0 ∧ t.pr[0].sat = false := by
  decide +kernel

theorem test_pr_rst :
    let s := (withX []).setPr 1 { PrUnit.reset with b0 := 7, w0 := 8, w1 := 1, w2 := 2, out := 3, sat := true }
    (after (.prRst 1) s).pr[1] = { PrUnit.reset with b0 := 7, w0 := 8 } := by decide +kernel

/-- The PLL of 95_test_vectors.md section 5, with a given angle. -/
def pllState (theta : Word) (v : List Word) : State :=
  (withX v).setPll { PllUnit.reset with
    kp := 0x8000, ki := 0x28F, wff := 0x013A28C6, wmin := 0x011ABE4B, wmax := 0x01599340, lockThr := 0xCCD
    lockN := 3, theta := theta, omega := 0x013A28C6 }

/-- Row 1. -/
theorem test_pll_upd :
    let t := after (.pllUpd 2 0 1) (pllState 0 [0x01450000, 0])
    t.readX 2 = 0x0147AE21 ∧ t.readX 3 = 0x013A28C5 ∧ t.pll.vd = 0x01450000 ∧ t.pll.vq = 2 ∧
      t.pll.vmag = 0x01450000 ∧ t.pll.integ = 0 ∧ t.pll.lcnt = 1 ∧ t.pll.lock = false := by decide +kernel

/-- Row 9: `LOCK_N = 0` locks on one good update. -/
theorem test_pll_upd_lock :
    let s := (withX [0x00640000, 0]).setPll { PllUnit.reset with lockThr := 0xCCD }
    let t := after (.pllUpd 2 0 1) s
    t.pll.lcnt = 0 ∧ t.pll.lock = true ∧ (t.readReg (regAt 0x008)).getLsbD 9 = true := by decide +kernel

theorem test_pll_rst :
    let t := after .pllRst (pllState 0x12345678 [])
    t.pll.theta = 0 ∧ t.pll.omega = 0x013A28C6 ∧ t.readReg (regAt 0x338) = 0 := by decide +kernel

theorem test_svm_calc :
    let t := after (.svmCalc 4 0 1 2) (withX [0x01900000, 0, 0x02BC0000])
    t.readX 4 = 60855 ∧ t.readX 5 = 4681 ∧ t.readX 6 = 4681 ∧ t.svm = ⟨60855, 4681, 4681, 2⟩ := by
  decide +kernel

/-- A bus voltage that is not positive: ARGERR alone (45_svm.md R371). -/
theorem test_svm_calc_argerr :
    after (.svmCalc 4 0 1 2) (withX [0x01900000, 0, 0]) =
      { withX [0x01900000, 0, 0] with argerr := true } := by decide +kernel

theorem test_svm_mid :
    (after .svmMid (after (.svmCalc 4 0 1 2) (withX [0x01900000, 0, 0x02BC0000]))).ports =
      ⟨0x8000, 0x8000, 0x8000, 0, true, false⟩ := by decide +kernel

/-- The thresholds of the example of 46_protection.md R401, with a given over-current counter, and its
sample in `X1`..`X5`. -/
def protState (cnt : BitVec 16) : State :=
  (withX [0, 0x00960000, 0, 0, 0x02BC0000, 0x00190000]).setProt { ProtUnit.reset with
    imax := 0x00780000, vdcmax := 0x03250000, vdcmin := 0x02300000, tmax := 0x00550000, debounce := 10
    cntOc := cnt }

/-- Call 10 counts, call 11 confirms. -/
theorem test_prot_upd :
    let t := after (.protUpd 0 1) (protState 9)
    let u := after (.protUpd 0 1) t
    t.prot.cntOc = 10 ∧ t.readX 0 = 0 ∧ t.safe = true ∧
      u.prot.cntOc = 10 ∧ u.readX 0 = 1 ∧ u.prot.active = 1 ∧ u.prot.latched = 1 ∧ u.prot.trig = true ∧
      u.safe = false := by decide +kernel

theorem test_prot_clr :
    (after .protClr (after (.protUpd 0 1) (protState 10))).prot = (protState 0).prot := by decide +kernel

/-- The example of 46_protection.md R403. -/
theorem test_prot_set :
    let s := (withX [0, 0x80]).setProt { ProtUnit.reset with latched := 0x0F }
    let t := after (.protSet 1) s
    t.prot.active = 0x80 ∧ t.prot.latched = 0x8F ∧ t.prot.trig = true := by decide +kernel

/-! ### One step of the host port -/

/-- The state after a step, on a machine whose next event is `e`. -/
def afterEvent (e : HostEvent) (s : State) : State :=
  match step { s with pending := [e] } with
  | .next t => t
  | _ => s

/-- `clarke x4, x0, x1, x2` on the bus, and through `withFetchWord`. -/
theorem test_cmd_write :
    (afterEvent (.write (.window 0x00C) 4 0x00210401) (withX [0x00640000, 0xFFCE0000, 0xFFCE0000])).readX 4 =
      0x00640000 ∧
    (match step ((withX [0x00640000]).withFetchWord 32 0x00210401) with
      | .next t => t.readX 4
      | _ => 0) = 0x0042AAAB := by decide +kernel

theorem test_illegal_cmd :
    afterEvent (.write (.window 0x00C) 4 0) State.reset = { State.reset with ill := true, resp := .okay } := by
  decide +kernel

/-- A locked configuration write sets `WLOCK`, an unlocked one stores, masked (20_memory.md R136). -/
theorem test_cfg_write :
    (afterEvent (.write (.window 0x318) 4 0xABCD1234) State.reset).readReg (regAt 0x318) = 0x1234 ∧
    afterEvent (.write (.window 0x010) 4 7) { State.reset with cfgLock := true } =
      { State.reset with cfgLock := true, wlock := true, resp := .okay } := by decide +kernel

/-- `ID` and `STATUS` after reset, and an access that is refused (20_memory.md R133, R138). -/
theorem test_reads :
    (afterEvent (.read (.window 0x000) 4) State.reset).resp = .data 0x43505431 ∧
    (afterEvent (.read (.window 0x008) 4) State.reset).resp = .data 0x00000100 ∧
    (afterEvent (.read (.window 0x002) 4) State.reset).resp = .busError ∧
    (afterEvent (.write (.window 0x040) 2 5) State.reset).resp = .busError ∧
    (afterEvent .reset (withX [1, 2])).x = State.reset.x := by decide +kernel

/-- The two words of a delay-line cell and the lock word (10_state.md R64, R80). -/
theorem test_wide_registers :
    let s := ((withX []).setPr 1 { PrUnit.reset with w1 := 0x1122334455667788, w2 := 0x99AABBCCDDEEFF00 }).setPll
      { PllUnit.reset with lock := true, lcnt := 0x0102 }
    [0x2AC, 0x2B0, 0x2B4, 0x2B8, 0x338].map (fun o => s.readReg (regAt o)) =
      [0x55667788, 0x11223344, 0xDDEEFF00, 0x99AABBCC, 0x01020001] ∧
    [0, 1, 2, 3].map (fun i => s.windowByte (0x2AC + i)) = [0x88, 0x77, 0x66, 0x55] := by decide +kernel

/-! ### Witnesses: the hypotheses of the statements can be met together -/

theorem witness_DecodeOfEncode : ∃ i : Instr, i.wellFormed = true ∧ i = .piUpd 15 15 15 3 := ⟨_, by decide, rfl⟩

theorem witness_EncodeOfDecode : ∃ (w : Word) (i : Instr), decode w = .ok i := ⟨0x00010D02, .iclarke 13 0 1, rfl⟩

theorem witness_DecodedWords : ∃ w : Word, legalWord w = false := ⟨0x04000011, by decide⟩

theorem witness_StepRuns :
    (∃ (s : State) (w : Word) (i : Instr) (rest : List HostEvent),
      s.pending = .write (.window 0x00C) 4 w :: rest ∧ decode w = .ok i) ∧
    ∃ i : Instr, i.wellFormed = true :=
  ⟨⟨{ State.reset with pending := [cmdWrite 0x00210401, .reset] }, _, .clarke 4 0 1 2, [.reset], rfl, rfl⟩,
    .svmMid, rfl⟩

theorem witness_IllegalCommand : ∃ (s : State) (w : Word) (rest : List HostEvent),
    s.pending = .write (.window 0x00C) 4 w :: rest ∧ legalWord w = false :=
  ⟨{ State.reset with pending := [cmdWrite 0x0000C050] }, 0x0000C050, [], rfl, by decide⟩

theorem witness_IllFormed : ∃ i : Instr, i.wellFormed = false := ⟨.clarke 15 0 1 2, by decide⟩

theorem witness_ResetEvent : ∃ (s : State) (rest : List HostEvent) (off : BitVec 12),
    s.pending = .reset :: rest ∧ off.toNat % 4 = 0 ∧ off = 0xFFC :=
  ⟨{ withX [1] with pending := [.reset] }, [], 0xFFC, by decide⟩

/-- A byte-sized access of an aligned offset, and a word access of an offset that is not. -/
theorem witness_OtherAccesses :
    (∃ (s : State) (rest : List HostEvent) (off : BitVec 12) (n : Nat),
      ¬ (n = 4 ∧ off.toNat % 4 = 0) ∧ s.pending = .read (.window off) n :: rest) ∧
    ∃ (s : State) (rest : List HostEvent) (off : BitVec 12) (n : Nat) (v : Word),
      ¬ (n = 4 ∧ off.toNat % 4 = 0) ∧ s.pending = .write (.window off) n v :: rest :=
  ⟨⟨{ State.reset with pending := [.read (.window 0x008) 1] }, [], 0x008, 1, by decide, rfl⟩,
    { State.reset with pending := [.write (.window 0xFFF) 4 9] }, [], 0xFFF, 4, 9, by decide, rfl⟩

theorem witness_ReadAnswers : ∃ (s : State) (rest : List HostEvent) (off : BitVec 12),
    off.toNat % 4 = 0 ∧ s.pending = .read (.window off) 4 :: rest :=
  ⟨{ State.reset with pending := [.read (.window 0xFFC) 4] }, [], 0xFFC, by decide, rfl⟩

/-- Each unmapped range at its first and last word, and mapped words beside them. -/
theorem witness_Unmapped :
    [0x014, 0x03C, 0x080, 0x0FC, 0x180, 0x1FC, 0x244, 0x27C, 0x2C4, 0x2FC, 0x31C, 0x33C, 0x37C, 0x390, 0x3FC,
      0x414, 0x41C, 0x43C, 0xFFC].all (fun o => regAt o == .unmapped) = true ∧
    [0x010, 0x040, 0x07C, 0x100, 0x17C, 0x200, 0x240, 0x280, 0x2C0, 0x300, 0x318, 0x320, 0x338, 0x380, 0x38C,
      0x400, 0x410, 0x420, 0x438].all (fun o => regAt o != .unmapped) = true := by decide

/-- A register of 32 bits and one of 16, both configuration, on an unlocked machine. -/
theorem witness_ConfigurationWrite : ∃ s : State, s.cfgLock = false ∧
    ∀ off ∈ [(0x010 : BitVec 12), 0x318, 0x410], off.toNat % 4 = 0 ∧ (regAt off.toNat).access = .cfg :=
  ⟨State.reset, rfl, by decide⟩

/-- A locked configuration write, a write to a read-only register, one to an unmapped offset, and a command. -/
theorem witness_LockedConfigurationWrite :
    (∃ s : State, s.cfgLock = true ∧ (regAt 0x40C).access = .cfg) ∧ (regAt 0x438).access = .ro ∧
    (regAt 0x000).access = .ro ∧ (regAt 0xFFC).access = .razWi ∧ ∃ s t : State, exec .svmMid s = .next t :=
  ⟨⟨{ State.reset with cfgLock := true }, by decide⟩, by decide, by decide, by decide, State.reset, _,
    exec_after _ _⟩

theorem witness_Window : ∃ (s : State) (rest : List HostEvent) (a n : Nat),
    s.pending = .read (.outside a) n :: rest :=
  ⟨{ State.reset with pending := [.read (.outside 0x1000) 4] }, [], 0x1000, 4, rfl⟩

/-- A state other than reset that keeps the invariant, and its next state. -/
theorem witness_EveryStepKeeps : ∃ s t : State, s.Inv ∧ step s = .next t ∧ s ≠ State.reset :=
  ⟨(protState 9).withFetchWord 32 0x00001050, _,
    ⟨by decide, by decide, by decide, by decide, by decide, fun j => by
      rw [PrUnit.coeffsAgree]; revert j; decide +kernel⟩, rfl, by decide⟩

theorem witness_ConfigurationIsFrozen : ∃ (n : Nat) (s t : State), s.cfgLock = true ∧ HostEvent.reset ∉ s.pending ∧
    Sys2Proof.core.run n s = .next t ∧ t ≠ s :=
  ⟨1, { State.reset with cfgLock := true, pending := [.write (.window 0x010) 4 7] }, _, rfl, by decide, rfl,
    by decide⟩

theorem witness_CommandsClearNoStickyBit : ∃ (i : Instr) (s t : State), exec i s = .next t ∧
    s.ill = true ∧ s.argerr = true ∧ s.satf = true ∧ s.wlock = true :=
  ⟨.protClr, { State.reset with ill := true, argerr := true, satf := true, wlock := true }, _, exec_after _ _,
    rfl, rfl, rfl, rfl⟩

/-- Both clauses: an illegal word, its bit already set, and a legal one that raises ARGERR. -/
theorem witness_FailingCommand :
    (∃ (w : Word) (s t : State), execute w s = .next t ∧ legalWord w = false ∧ s.ill = true) ∧
    ∃ (w : Word) (s t : State), execute w s = .next t ∧ legalWord w = true ∧ s.argerr = false ∧
      t.argerr = true :=
  ⟨⟨0x04000011, { State.reset with ill := true }, _, rfl, by decide, rfl⟩,
    0x00210440, State.reset, _, (execute_ok rfl _).trans (exec_after (.svmCalc 4 0 1 2) _), by decide +kernel⟩


theorem witness_OneTransaction : ∃ s t : State, step s = .next t ∧ s.wlock = false ∧ t.wlock = true :=
  ⟨{ State.reset with cfgLock := true, pending := [.write (.window 0x410) 4 7] }, _, rfl, by decide⟩

theorem witness_OnlyClearAndReset : ∃ s t : State, step s = .next t ∧ s.pending.head? ≠ some .reset ∧
    s.pending.head? ≠ some (.write (.window 0x00C) 4 0x00000051) ∧ s.prot.latched ≠ 0 :=
  ⟨(after (.protUpd 0 1) (protState 10)).withFetchWord 32 0x00001052, _, rfl, by decide +kernel⟩

theorem witness_Arithmetic : (∃ k : Nat, 1 ≤ k ∧ k = 1) ∧ (∃ d : Int, d ≠ 0 ∧ d = -1) ∧
    ∃ n r : Nat, r ^ 2 ≤ n ∧ n = 15 := ⟨⟨1, by decide⟩, ⟨-1, by decide⟩, 15, 3, by decide⟩

/-- The last legal destination of each command with a span. -/
theorem witness_Spans : (∃ rd : RegNo, rd.toNat ≤ 14 ∧ rd = 14) ∧ (∃ rd : RegNo, rd.toNat ≤ 13 ∧ rd = 13) ∧
    ∃ r1 : RegNo, r1.toNat ≤ 11 ∧ r1 = 11 := ⟨⟨14, by decide⟩, ⟨13, by decide⟩, 11, by decide⟩

/-- The last instance of each kind. -/
theorem witness_Instances : (∃ (k : InstNo) (i : Fin 4), k.toNat = i.val ∧ i = 3) ∧
    ∃ (j : InstNo) (i : Fin 2), j.toNat = i.val ∧ i = 1 := ⟨⟨3, 3, by decide⟩, 1, 1, by decide⟩

theorem witness_RotationOfTheOppositeVector : ∃ (rd a b th : RegNo) (s : State) (i : Instr), rd.toNat ≤ 14 ∧
    a ≠ b ∧ a ≠ th ∧ b ≠ th ∧ s.readX a ≠ 0x80000000 ∧ s.readX b ≠ 0x80000000 ∧
    (i = .park rd a b th ∨ i = .ipark rd a b th) :=
  ⟨14, 0, 1, 2, withX [0x7FFFFFFF, 0x80000001, 5], .park 14 0 1 2, by decide⟩

theorem witness_TransformsReadOnlyDataRegisters : ∃ (i : Instr) (s s' t t' : State), i = .park 3 0 1 2 ∧
    s.x = s'.x ∧ s ≠ s' ∧ exec i s = .next t ∧ exec i s' = .next t' :=
  ⟨_, withX [1, 2, 3], { withX [1, 2, 3] with ts := 0, satf := true }, _, _, rfl, rfl, by decide, exec_after _ _,
    exec_after _ _⟩

/-- The largest components of the bounded round trip. -/
theorem witness_ClarkeRoundTrip : ∃ (r1 r2 rd rd' : RegNo) (s : State), rd.toNat ≤ 13 ∧ rd'.toNat ≤ 14 ∧
    (sv (s.readX r1)).natAbs ≤ 16000 * 65536 ∧ (sv (s.readX r2)).natAbs ≤ 16000 * 65536 ∧
    (sv (s.readX r1)).natAbs = 16000 * 65536 :=
  ⟨0, 1, 13, 14, withX [0x3E800000, 0xC1800000], by decide⟩

/-- Each clause at its bound. -/
theorem witness_ClarkePairRange :
    (∃ s t : State, exec (.clarke 3 0 1 2) s = .next t ∧ (sv (s.readX 0)).natAbs ≤ 23988 * 65536 ∧
      (sv (s.readX 1)).natAbs ≤ 23988 * 65536 ∧ (sv (s.readX 2)).natAbs ≤ 23988 * 65536 ∧ s.readX 0 ≠ 0) ∧
    ∃ s t : State, exec (.iclarke 3 0 1) s = .next t ∧ (sv (s.readX 0)).natAbs ≤ 23987 * 65536 ∧
      (sv (s.readX 1)).natAbs ≤ 23987 * 65536 ∧ s.readX 0 ≠ 0 :=
  ⟨⟨withX [0x5DB40000, 0xA24C0000, 0xA24C0000], _, exec_after _ _, by decide⟩,
    withX [0x5DB30000, 0xA24D0000], _, exec_after _ _, by decide⟩

/-- The hypotheses of the bound that is expected to fail. -/
theorem witness_InverseClarkeRange : ∃ s t : State, exec (.iclarke 3 0 1) s = .next t ∧
    (sv (s.readX 0)).natAbs ≤ 23988 * 65536 ∧ (sv (s.readX 1)).natAbs ≤ 23988 * 65536 ∧ s.readX 0 ≠ 0 :=
  ⟨withX [0x5DB40000, 0xA24C0000], _, exec_after _ _, by decide⟩

/-- Each premise of the bounds and the anti-windup: consistent bounds, a high clamp with an error that is not
negative, a low clamp with one that is not positive, and a high clamp at `UMIN = UMAX`. -/
theorem witness_PiOutput :
    let ut (s : State) : Int := rnd 16 (sv s.pi[3].kp * sv (s.readX 0)) +
      (sv s.pi[3].integ + rnd 48 (sv s.pi[3].ki * uv s.ts * sv (s.readX 0)))
    (∃ s t : State, exec (.piUpd 2 0 1 3) s = .next t ∧ sv s.pi[3].umin ≤ sv s.pi[3].umax ∧
      sv s.pi[3].umax < ut s ∧ 0 ≤ sv (s.readX 0)) ∧
    (∃ s t : State, exec (.piUpd 2 0 1 3) s = .next t ∧ ut s ≤ sv s.pi[3].umax ∧ ut s < sv s.pi[3].umin ∧
      sv (s.readX 0) ≤ 0) ∧
    ∃ s t : State, exec (.piUpd 2 0 1 3) s = .next t ∧ s.pi[3].umin = s.pi[3].umax ∧
      sv s.pi[3].umax < ut s ∧ 0 ≤ sv (s.readX 0) :=
  ⟨⟨_, _, exec_after _ ((withX [0x00140000, 0]).setPi 3
      ⟨0x00010000, 0x00640000, 0x000A0000, 0xFFF60000, 0, 0, 0, false⟩), by decide +kernel⟩,
    ⟨_, _, exec_after _ ((withX [0xFFEC0000, 0]).setPi 3
      ⟨0x00010000, 0x00640000, 0x000A0000, 0xFFF60000, 0, 0, 0, false⟩), by decide +kernel⟩,
    _, _, exec_after _ ((withX [0x00140000, 0]).setPi 3
      ⟨0x00010000, 0x00640000, 0x000A0000, 0x000A0000, 0, 0, 0, false⟩), by decide +kernel⟩


theorem witness_PiUpdateReads : ∃ s s' t t' : State, s.pi[1] = s'.pi[1] ∧ s.ts = s'.ts ∧
    s.readX 0 = s'.readX 0 ∧ s.readX 1 = s'.readX 1 ∧ s ≠ s' ∧ exec (.piUpd 2 0 1 1) s = .next t ∧
    exec (.piUpd 2 0 1 1) s' = .next t' :=
  ⟨withX [1, 2], withX [1, 2, 3], _, _, by decide, by decide, by decide, by decide, by decide, exec_after _ _,
    exec_after _ _⟩

/-- Both sides of the test on the denominator. -/
theorem witness_PrTune :
    0 < prDen (sv 0x00050000) (sv 0x013A28C6) 429497 ∧ prDen (sv 0x8AD00000) 0 429497 ≤ 0 := by decide +kernel

/-- Consistent bounds, with differences that fit. -/
theorem witness_PllBounds : ∃ s t : State, exec (.pllUpd 14 0 1) s = .next t ∧ sv s.pll.wmin ≤ sv s.pll.wmax ∧
    -2 ^ 31 ≤ sv s.pll.wmin - sv s.pll.wff ∧ sv s.pll.wmin - sv s.pll.wff < 2 ^ 31 ∧
    -2 ^ 31 ≤ sv s.pll.wmax - sv s.pll.wff ∧ sv s.pll.wmax - sv s.pll.wff < 2 ^ 31 :=
  ⟨pllState 0 [0x01450000, 0], _, exec_after _ _, by decide +kernel⟩

theorem witness_PllLocks : ∃ s t : State, exec (.pllUpd 14 0 1) s = .next t ∧ t.pll.lock = true :=
  ⟨(withX [0x00640000, 0]).setPll { PllUnit.reset with lockThr := 0xCCD }, _, exec_after _ _, by decide +kernel⟩

/-- Each side of the disjunction. -/
theorem witness_PllNeverLocks :
    (∃ s t : State, exec (.pllUpd 14 0 1) s = .next t ∧ s.readX 0 = 0 ∧ s.readX 1 = 0 ∧ 0 < sv s.pll.lockThr) ∧
    ∃ s t : State, exec (.pllUpd 14 0 1) s = .next t ∧ s.readX 0 ≠ 0 ∧ sv s.pll.lockThr ≤ 0 :=
  ⟨⟨pllState 0 [0, 0], _, exec_after _ _, by decide⟩, withX [1], _, exec_after _ _, by decide⟩

/-- Both sides of the test on the bus voltage: its least positive value, and 0. -/
theorem witness_Svm : (∃ s : State, (13 : RegNo).toNat ≤ 13 ∧ 0 < sv (s.readX 2) ∧ s.readX 2 = 1) ∧
    ∃ s : State, sv (s.readX 2) ≤ 0 ∧ s.readX 2 = 0 := ⟨⟨withX [5, 6, 1], by decide⟩, withX [], by decide⟩

/-- An over-current of the last phase alone, the result register just below the operands, and among them. -/
theorem witness_OverCurrent : ∃ (s : State) (r1 : RegNo), r1.toNat ≤ 11 ∧
    (∀ rd ∈ [(0 : RegNo), r1 + 3], rd ≠ r1 ∧ rd ≠ r1 + 1 ∧ rd ≠ r1 + 2) ∧
    ((sv (s.readX r1)).natAbs : Int) ≤ sv s.prot.imax ∧
    sv s.prot.imax < ((sv (s.readX (r1 + 2))).natAbs : Int) ∧ s.prot.cntOc = 0 :=
  ⟨{ protState 0 with x := (withX [0, 0, 0, 0xFF6A0000]).x }, 1, by decide⟩


theorem witness_DebounceCounters : ∃ s t : State, (11 : RegNo).toNat ≤ 11 ∧ exec (.protUpd 0 11) s = .next t ∧
    s.prot.debounce < s.prot.cntOc :=
  ⟨{ State.reset with prot := { ProtUnit.reset with debounce := 3, cntOc := 9 } }, _, by decide, exec_after _ _,
    by decide⟩

end Sys2Proof.Tests
end

/-! ## Proofs: the host port and its registers (10_state.md R42-R46)

What a register of the window reads as, what a write to it does, and what a run cannot change while the
configuration is locked. -/

namespace Sys2Proof.Machine

/-! ### Reading and writing at named offsets -/

/-- A word write that is not addressed to `CMD` is the write to the register at its offset, answered. -/
theorem memWrite_reg {off : BitVec 12} {r : WinReg} (hlegal : legalAccess off 4 = true)
    (hreg : regAt off.toNat = r) (hcmd : r ≠ .cmd) (s : State) (v : Word) :
    memWrite off 4 v s = .next ((s.writeReg r v).respond .okay) := by
  subst hreg
  rcases memWrite_cases off 4 v s with ⟨hillegal, -⟩ | ⟨-, hcmd', -⟩ | ⟨-, -, hwrite⟩
  · simp [hlegal] at hillegal
  · exact absurd hcmd' hcmd
  · exact hwrite

/-- `X0`..`X15` stand from `0x040`, a word each (20_memory.md R138). -/
theorem regAt_x (n : RegNo) : regAt (0x040 + 4 * n.toNat) = .x n := by
  have hn := n.isLt
  rw [regAt, if_pos (by omega)]
  simp

theorem toNat_xOffset (n : RegNo) : (BitVec.ofNat 12 (0x040 + 4 * n.toNat)).toNat = 0x040 + 4 * n.toNat := by
  have hn := n.isLt
  rw [BitVec.toNat_ofNat, Nat.mod_eq_of_lt (by omega)]

theorem legalAccess_xOffset (n : RegNo) : legalAccess (BitVec.ofNat 12 (0x040 + 4 * n.toNat)) 4 = true := by
  have haligned : (0x040 + 4 * n.toNat) % 4 = 0 := by omega
  simp only [legalAccess, toNat_xOffset, haligned, beq_self_eq_true, Bool.and_self]

/-- Writing one data register changes that one alone. -/
theorem xAfter_writeX (s : State) (r : RegNo) (v : Word) : xAfter s (s.writeX r v) [(r, v)] := by
  intro q
  rw [State.readX_writeX]
  by_cases hq : q = r
  · simp [List.lookup, hq]
  · have hqr : (q == r) = false := beq_false_of_ne hq
    simp [List.lookup, hq, hqr]

/-- The bits of a flag word. -/
theorem getLsbD_flagAt (b : Bool) {k : Nat} (hk : k < 32) (i : Nat) :
    (flagAt b k).getLsbD i = (b && decide (i = k)) := by
  cases b with
  | false => simp [flagAt]
  | true =>
    rw [flagAt, if_pos rfl, BitVec.getLsbD_ofNat, Nat.testBit_two_pow, Bool.true_and, ← Bool.decide_and]
    exact decide_eq_decide.2 ⟨fun h => h.2.symm, fun h => ⟨h ▸ hk, h.symm⟩⟩

/-- `STATUS` has each of its flags at its own bit (10_state.md R45). -/
theorem State.getLsbD_statusWord (s : State) (i : Nat) :
    s.statusWord.getLsbD i =
      (s.ill && decide (i = 0) || s.argerr && decide (i = 1) || s.satf && decide (i = 2)
        || s.wlock && decide (i = 3) || s.safe && decide (i = 8) || s.pll.lock && decide (i = 9)) := by
  simp [State.statusWord, BitVec.getLsbD_or, getLsbD_flagAt]

/-! ### What a host write can do -/

/-- What a write to a register other than `CMD` can do (20_memory.md R134, R136). -/
theorem State.writeReg_cases (r : WinReg) (v : Word) (s : State) :
    (r = .ctrl ∧ s.writeReg r v = s.writeCtrl v) ∨
    (r = .status ∧ s.writeReg r v = s.clearStatus v) ∨
    (∃ n, r = .x n ∧ s.writeReg r v = s.writeX n v) ∨
    (r.access = .cfg ∧ s.writeReg r v = s.writeCfg r v) ∨
    (r = .cmd ∨ r.access = .ro ∨ r.access = .razWi) ∧ s.writeReg r v = s := by
  have hunit (isCfg : Bool) (h : r.access = if isCfg then .cfg else .ro) :
      (r.access = .cfg ∧ s.writeReg r v = s.writeCfg r v) ∨
      (r = .cmd ∨ r.access = .ro ∨ r.access = .razWi) ∧ s.writeReg r v = s := by
    cases isCfg with
    | true => exact .inl ⟨h, s.writeReg_cfg r v h⟩
    | false => exact .inr ⟨.inr (.inl h), s.writeReg_ro r v (.inl h)⟩
  cases r with
  | ctrl => exact .inl ⟨rfl, rfl⟩
  | status => exact .inr (.inl ⟨rfl, rfl⟩)
  | x n => exact .inr (.inr (.inl ⟨n, rfl, rfl⟩))
  | ts => exact .inr (.inr (.inr (hunit true rfl)))
  | pi k r => exact .inr (.inr (.inr (hunit r.isCfg rfl)))
  | pr j r => exact .inr (.inr (.inr (hunit r.isCfg rfl)))
  | pll r => exact .inr (.inr (.inr (hunit r.isCfg rfl)))
  | prot r => exact .inr (.inr (.inr (hunit r.isCfg rfl)))
  | id => exact .inr (.inr (.inr (hunit false rfl)))
  | svm r => exact .inr (.inr (.inr (hunit false rfl)))
  | cmd => exact .inr (.inr (.inr (.inr ⟨.inl rfl, rfl⟩)))
  | unmapped => exact .inr (.inr (.inr (.inr ⟨.inr (.inr rfl), rfl⟩)))

/-! ### The configuration of one unit -/

/-- The configuration registers of a PI block read the same. -/
def PiUnit.SameConfig (p q : PiUnit) : Prop := ∀ r : PiReg, r.isCfg = true → readPi q r = readPi p r

/-- The configuration registers of a PR block read the same. -/
def PrUnit.SameConfig (p q : PrUnit) : Prop := ∀ r : PrReg, r.isCfg = true → readPr q r = readPr p r

/-- The configuration registers of the PLL block read the same. -/
def PllUnit.SameConfig (p q : PllUnit) : Prop := ∀ r : PllReg, r.isCfg = true → readPll q r = readPll p r

/-- The configuration registers of the protection block read the same. -/
def ProtUnit.SameConfig (p q : ProtUnit) : Prop := ∀ r : ProtReg, r.isCfg = true → readProt q r = readProt p r

theorem PiUnit.sameConfig_of_eq {p q : PiUnit} (hkp : q.kp = p.kp) (hki : q.ki = p.ki)
    (humax : q.umax = p.umax) (humin : q.umin = p.umin) : p.SameConfig q := by
  intro r hr
  cases r with
  | kp => exact hkp
  | ki => exact hki
  | umax => exact humax
  | umin => exact humin
  | _ => cases hr

theorem PrUnit.sameConfig_of_eq {p q : PrUnit} (hkp : q.kp = p.kp) (hkr : q.kr = p.kr) (hwc : q.wc = p.wc)
    (humax : q.umax = p.umax) (humin : q.umin = p.umin) : p.SameConfig q := by
  intro r hr
  cases r with
  | kp => exact hkp
  | kr => exact hkr
  | wc => exact hwc
  | umax => exact humax
  | umin => exact humin
  | _ => cases hr

theorem PllUnit.sameConfig_of_eq {p q : PllUnit} (hkp : q.kp = p.kp) (hki : q.ki = p.ki)
    (hwff : q.wff = p.wff) (hwmin : q.wmin = p.wmin) (hwmax : q.wmax = p.wmax)
    (hthr : q.lockThr = p.lockThr) (hn : q.lockN = p.lockN) : p.SameConfig q := by
  intro r hr
  cases r with
  | kp => exact hkp
  | ki => exact hki
  | wff => exact hwff
  | wmin => exact hwmin
  | wmax => exact hwmax
  | lockThr => exact hthr
  | lockN => exact congrArg (BitVec.zeroExtend 32) hn
  | _ => cases hr

theorem ProtUnit.sameConfig_of_eq {p q : ProtUnit} (himax : q.imax = p.imax) (hvmax : q.vdcmax = p.vdcmax)
    (hvmin : q.vdcmin = p.vdcmin) (htmax : q.tmax = p.tmax) (hdeb : q.debounce = p.debounce) :
    p.SameConfig q := by
  intro r hr
  cases r with
  | imax => exact himax
  | vdcmax => exact hvmax
  | vdcmin => exact hvmin
  | tmax => exact htmax
  | debounce => exact congrArg (BitVec.zeroExtend 32) hdeb
  | _ => cases hr

theorem piStore_sameConfig (p : PiUnit) (e it u : Int) (sat advance : Bool) :
    p.SameConfig (piStore p e it u sat advance) := PiUnit.sameConfig_of_eq rfl rfl rfl rfl

/-- A PI update keeps the configuration on every path (42_pi.md R291). -/
theorem piUpdate_sameConfig (p : PiUnit) (t ref fb : Int) : p.SameConfig (piUpdate p t ref fb).1 := by
  unfold piUpdate
  dsimp only
  split <;> [skip; split] <;> exact piStore_sameConfig _ _ _ _ _ _

theorem prStore_sameConfig (p : PrUnit) (wn u : Int) (sat : Bool) : p.SameConfig (prStore p wn u sat) :=
  PrUnit.sameConfig_of_eq rfl rfl rfl rfl rfl

/-- A PR update keeps the configuration on every path (43_pr.md R311). -/
theorem prUpdate_sameConfig (p : PrUnit) (ref fb : Int) : p.SameConfig (prUpdate p ref fb).1 := by
  unfold prUpdate
  dsimp only
  split <;> [skip; split] <;> exact prStore_sameConfig _ _ _ _

theorem prTuned_sameConfig (p : PrUnit) (t w0 : Int) : p.SameConfig (prTuned p t w0) :=
  PrUnit.sameConfig_of_eq rfl rfl rfl rfl rfl

theorem pllUpdate_sameConfig (p : PllUnit) (t va vb : Int) : p.SameConfig (pllUpdate p t va vb) :=
  PllUnit.sameConfig_of_eq rfl rfl rfl rfl rfl rfl rfl

theorem protUpdate_sameConfig (p : ProtUnit) (m : Sample) : p.SameConfig (protUpdate p m) :=
  ProtUnit.sameConfig_of_eq rfl rfl rfl rfl rfl

/-! ### The configuration of the core -/

theorem sameConfig.refl (s : State) : sameConfig s s := fun _ _ => rfl

theorem sameConfig.trans {s t u : State} (hst : sameConfig s t) (htu : sameConfig t u) : sameConfig s u :=
  fun r hr => (htu r hr).trans (hst r hr)

/-- Configuration is the registers of `TS` and of the four kinds of unit that have any. -/
theorem sameConfig_of_units {s t : State} (hts : t.ts = s.ts)
    (hpi : ∀ k : Fin 4, s.pi[k].SameConfig t.pi[k]) (hpr : ∀ j : Fin 2, s.pr[j].SameConfig t.pr[j])
    (hpll : s.pll.SameConfig t.pll) (hprot : s.prot.SameConfig t.prot) : sameConfig s t := by
  intro r hr
  cases r with
  | ts => exact hts
  | pi k r => exact hpi k r (by simpa [WinReg.access] using hr)
  | pr j r => exact hpr j r (by simpa [WinReg.access] using hr)
  | pll r => exact hpll r (by simpa [WinReg.access] using hr)
  | prot r => exact hprot r (by simpa [WinReg.access] using hr)
  | _ => cases hr

theorem sameConfig_of_eq {s t : State} (hts : t.ts = s.ts) (hpi : t.pi = s.pi) (hpr : t.pr = s.pr)
    (hpll : t.pll = s.pll) (hprot : t.prot = s.prot) : sameConfig s t := by
  refine sameConfig_of_units hts ?_ ?_ ?_ ?_
  · rw [hpi]; exact fun _ _ _ => rfl
  · rw [hpr]; exact fun _ _ _ => rfl
  · rw [hpll]; exact fun _ _ => rfl
  · rw [hprot]; exact fun _ _ => rfl

theorem sameConfig_setPi (s : State) (k : Fin 4) {p : PiUnit} (hp : s.pi[k].SameConfig p) :
    sameConfig s (s.setPi k p) := by
  refine sameConfig_of_units rfl (fun i => ?_) (fun _ _ _ => rfl) (fun _ _ => rfl) (fun _ _ => rfl)
  rw [State.setPi_get]
  split
  · next hik => subst hik; exact hp
  · exact fun _ _ => rfl

theorem sameConfig_setPr (s : State) (j : Fin 2) {p : PrUnit} (hp : s.pr[j].SameConfig p) :
    sameConfig s (s.setPr j p) := by
  refine sameConfig_of_units rfl (fun _ _ _ => rfl) (fun i => ?_) (fun _ _ => rfl) (fun _ _ => rfl)
  rw [State.setPr_get]
  split
  · next hij => subst hij; exact hp
  · exact fun _ _ => rfl

/-! ### What every command keeps -/

/-- What no command touches: the lock, `WLOCK`, the host's side of the port, and the configuration
(60_exceptions.md R434; 20_memory.md R134). -/
structure CommandFrame (s t : State) : Prop where
  cfgLock : t.cfgLock = s.cfgLock
  wlock : t.wlock = s.wlock
  pending : t.pending = s.pending
  resp : t.resp = s.resp
  config : sameConfig s t

namespace CommandFrame

variable {s t u : State}

theorem refl (s : State) : CommandFrame s s := ⟨rfl, rfl, rfl, rfl, .refl s⟩

theorem trans (hst : CommandFrame s t) (htu : CommandFrame t u) : CommandFrame s u where
  cfgLock := htu.cfgLock.trans hst.cfgLock
  wlock := htu.wlock.trans hst.wlock
  pending := htu.pending.trans hst.pending
  resp := htu.resp.trans hst.resp
  config := hst.config.trans htu.config

theorem raise_ill (s : State) : CommandFrame s (s.raise .ill) :=
  ⟨rfl, rfl, rfl, rfl, sameConfig_of_eq rfl rfl rfl rfl rfl⟩

theorem raise_argerr (s : State) : CommandFrame s (s.raise .argerr) :=
  ⟨rfl, rfl, rfl, rfl, sameConfig_of_eq rfl rfl rfl rfl rfl⟩

theorem noteSat (h : CommandFrame s t) (b : Bool) : CommandFrame s (t.noteSat b) :=
  h.trans ⟨rfl, rfl, rfl, rfl, sameConfig_of_eq rfl rfl rfl rfl rfl⟩

theorem writeX (h : CommandFrame s t) (r : RegNo) (v : Word) : CommandFrame s (t.writeX r v) :=
  h.trans ⟨rfl, rfl, rfl, rfl, sameConfig_of_eq rfl rfl rfl rfl rfl⟩

theorem writeX2 (h : CommandFrame s t) (rd : RegNo) (v0 v1 : Word) : CommandFrame s (t.writeX2 rd v0 v1) :=
  (h.writeX rd v0).writeX (rd + 1) v1

theorem writeX3 (h : CommandFrame s t) (rd : RegNo) (v0 v1 v2 : Word) :
    CommandFrame s (t.writeX3 rd v0 v1 v2) := (h.writeX2 rd v0 v1).writeX (rd + 2) v2

theorem setPi (h : CommandFrame s t) (k : Fin 4) {p : PiUnit} (hp : t.pi[k].SameConfig p) :
    CommandFrame s (t.setPi k p) := h.trans ⟨rfl, rfl, rfl, rfl, sameConfig_setPi t k hp⟩

theorem setPr (h : CommandFrame s t) (j : Fin 2) {p : PrUnit} (hp : t.pr[j].SameConfig p) :
    CommandFrame s (t.setPr j p) := h.trans ⟨rfl, rfl, rfl, rfl, sameConfig_setPr t j hp⟩

theorem setPll (h : CommandFrame s t) {p : PllUnit} (hp : t.pll.SameConfig p) : CommandFrame s (t.setPll p) :=
  h.trans ⟨rfl, rfl, rfl, rfl,
    sameConfig_of_units rfl (fun _ _ _ => rfl) (fun _ _ _ => rfl) hp (fun _ _ => rfl)⟩

theorem setSvm (h : CommandFrame s t) (p : SvmUnit) : CommandFrame s (t.setSvm p) :=
  h.trans ⟨rfl, rfl, rfl, rfl, sameConfig_of_eq rfl rfl rfl rfl rfl⟩

theorem setProt (h : CommandFrame s t) {p : ProtUnit} (hp : t.prot.SameConfig p) :
    CommandFrame s (t.setProt p) :=
  h.trans ⟨rfl, rfl, rfl, rfl,
    sameConfig_of_units rfl (fun _ _ _ => rfl) (fun _ _ _ => rfl) (fun _ _ => rfl) hp⟩

theorem storeSat2 (s : State) (rd : RegNo) (v0 v1 : Int) : CommandFrame s (s.storeSat2 rd v0 v1) :=
  ((refl s).noteSat _).writeX2 _ _ _

theorem storeSat3 (s : State) (rd : RegNo) (v0 v1 v2 : Int) : CommandFrame s (s.storeSat3 rd v0 v1 v2) :=
  ((refl s).noteSat _).writeX3 _ _ _ _

theorem of_whenLegal {ok : Bool} {d : State} (hd : CommandFrame s d) (h : whenLegal ok s d = .next t) :
    CommandFrame s t := by
  obtain ⟨-, rfl⟩ | ⟨-, rfl⟩ := (whenLegal_next ok s d t).1 h
  · exact hd
  · exact raise_ill s

theorem of_onPi {k : InstNo} {f : Fin 4 → State} (hf : ∀ i, CommandFrame s (f i))
    (h : onPi k s f = .next t) : CommandFrame s t := by
  obtain ⟨i, -, rfl⟩ | ⟨-, rfl⟩ := (onPi_next k s t f).1 h
  · exact hf i
  · exact raise_ill s

theorem of_onPr {j : InstNo} {f : Fin 2 → State} (hf : ∀ i, CommandFrame s (f i))
    (h : onPr j s f = .next t) : CommandFrame s t := by
  obtain ⟨i, -, rfl⟩ | ⟨-, rfl⟩ := (onPr_next j s t f).1 h
  · exact hf i
  · exact raise_ill s

end CommandFrame

/-- No command touches what `CommandFrame` lists. -/
theorem exec_frame (i : Instr) {s t : State} (h : exec i s = .next t) : CommandFrame s t := by
  have hs := CommandFrame.refl s
  cases i with
  | clarke rd rs1 rs2 rs3 => exact .of_whenLegal (.storeSat2 s rd _ _) h
  | iclarke rd rs1 rs2 => exact .of_whenLegal (.storeSat3 s rd _ _ _) h
  | park rd rs1 rs2 rs3 => exact .of_whenLegal (.storeSat2 s rd _ _) h
  | ipark rd rs1 rs2 rs3 => exact .of_whenLegal (.storeSat2 s rd _ _) h
  | piUpd rd rs1 rs2 k =>
    exact .of_onPi (fun i => ((hs.noteSat _).setPi i (piUpdate_sameConfig s.pi[i] _ _ _)).writeX _ _) h
  | piRst k =>
    refine .of_onPi (fun i => hs.setPi i ?_) h
    exact PiUnit.sameConfig_of_eq rfl rfl rfl rfl
  | prUpd rd rs1 rs2 j =>
    exact .of_onPr (fun i => ((hs.noteSat _).setPr i (prUpdate_sameConfig s.pr[i] _ _)).writeX _ _) h
  | prRst j =>
    refine .of_onPr (fun i => hs.setPr i ?_) h
    exact PrUnit.sameConfig_of_eq rfl rfl rfl rfl rfl
  | prSetf rs1 j =>
    refine .of_onPr (fun i => ?_) h
    split
    · exact .raise_argerr s
    · exact (hs.noteSat _).setPr i (prTuned_sameConfig s.pr[i] _ _)
  | pllUpd rd rs1 rs2 =>
    exact .of_whenLegal (((hs.noteSat _).setPll (pllUpdate_sameConfig s.pll _ _ _)).writeX2 _ _ _) h
  | pllRst =>
    cases h
    exact hs.setPll (PllUnit.sameConfig_of_eq rfl rfl rfl rfl rfl rfl rfl)
  | svmCalc rd rs1 rs2 rs3 =>
    refine .of_whenLegal ?_ h
    split
    · exact .raise_argerr s
    · exact ((hs.noteSat _).setSvm _).writeX3 _ _ _ _
  | svmMid =>
    cases h
    exact hs.setSvm _
  | protUpd rd rs1 =>
    exact .of_whenLegal ((hs.setProt (protUpdate_sameConfig s.prot _)).writeX _ _) h
  | protClr =>
    cases h
    exact hs.setProt (ProtUnit.sameConfig_of_eq rfl rfl rfl rfl rfl)
  | protSet rs1 =>
    cases h
    exact hs.setProt (ProtUnit.sameConfig_of_eq rfl rfl rfl rfl rfl)

/-- A command word, legal or not, touches nothing of `CommandFrame`. -/
theorem execute_frame (w : Word) {s t : State} (h : execute w s = .next t) : CommandFrame s t := by
  cases hw : decode w with
  | ok i => exact exec_frame i (execute_ok hw s ▸ h)
  | error e =>
    rw [execute_error hw] at h
    cases h
    exact .raise_ill s

/-! ### Runs -/

/-- A run of one more step is a step and the rest of the run. -/
theorem run_succ_next (M : Host.Core) (n : Nat) (s t : M.State) :
    M.run (n + 1) s = .next t ↔ ∃ u, M.step s = .next u ∧ M.run n u = .next t := by
  rw [Host.Core.run]
  cases M.step s <;> simp

/-- What every step keeps, every run keeps. -/
theorem run_preserves {P : State → Prop} (hstep : ∀ s t, P s → step s = .next t → P t) (n : Nat) :
    ∀ {s t : State}, P s → Sys2Proof.core.run n s = .next t → P t := by
  induction n with
  | zero =>
    intro s t hs hrun
    cases hrun
    exact hs
  | succ n ih =>
    intro s t hs hrun
    obtain ⟨u, hu, hrest⟩ := (run_succ_next Sys2Proof.core n s t).1 hrun
    exact ih (hstep s u hs hu) hrest

/-! ### The locked configuration -/

/-- What one event other than reset keeps of a locked state `s`: the lock, the host's queue and the
configuration. -/
structure KeepsLocked (s t : State) : Prop where
  locked : t.cfgLock = true
  pending : t.pending = s.pending
  config : sameConfig s t

theorem CommandFrame.keepsLocked {s t : State} (h : CommandFrame s t) (hlock : s.cfgLock = true) :
    KeepsLocked s t := ⟨h.cfgLock.trans hlock, h.pending, h.config⟩

theorem KeepsLocked.respond {s t : State} (h : KeepsLocked s t) (a : BusResponse) :
    KeepsLocked s (t.respond a) :=
  ⟨h.locked, h.pending, h.config.trans (sameConfig_of_eq rfl rfl rfl rfl rfl)⟩

theorem respond_keepsLocked {s : State} (hlock : s.cfgLock = true) (a : BusResponse) :
    KeepsLocked s (s.respond a) := ((CommandFrame.refl s).keepsLocked hlock).respond a

/-- While locked, a write to a configuration register is refused, and `CTRL` cannot clear the lock
(10_state.md R44; 60_exceptions.md R434). -/
theorem writeReg_keepsLocked {s : State} (hlock : s.cfgLock = true) (r : WinReg) (v : Word) :
    KeepsLocked s (s.writeReg r v) := by
  rcases s.writeReg_cases r v with ⟨-, h⟩ | ⟨-, h⟩ | ⟨n, -, h⟩ | ⟨-, h⟩ | ⟨-, h⟩ <;> rw [h]
  · exact ⟨by simp [hlock], rfl, sameConfig_of_eq rfl rfl rfl rfl rfl⟩
  · exact ⟨hlock, rfl, sameConfig_of_eq rfl rfl rfl rfl rfl⟩
  · exact ((CommandFrame.refl s).writeX n v).keepsLocked hlock
  · obtain ⟨-, hraise⟩ | ⟨hunlocked, -⟩ := s.writeCfg_cases r v
    · rw [hraise]
      exact ⟨hlock, rfl, sameConfig_of_eq rfl rfl rfl rfl rfl⟩
    · simp [hlock] at hunlocked
  · exact (CommandFrame.refl s).keepsLocked hlock

theorem memWrite_keepsLocked {s t : State} (hlock : s.cfgLock = true) {off : BitVec 12} {n : Nat} {v : Word}
    (h : memWrite off n v s = .next t) : KeepsLocked s t := by
  rcases memWrite_cases off n v s with ⟨-, hw⟩ | ⟨-, -, hw⟩ | ⟨-, -, hw⟩ <;> rw [hw] at h
  · cases h
    exact respond_keepsLocked hlock _
  · have hframe := execute_frame v h
    exact ⟨hframe.cfgLock.trans hlock, hframe.pending,
      (respond_keepsLocked hlock .okay).config.trans hframe.config⟩
  · cases h
    exact (writeReg_keepsLocked hlock _ v).respond _

theorem memRead_keepsLocked {s : State} (hlock : s.cfgLock = true) (off : BitVec 12) (n : Nat) :
    KeepsLocked s (memRead off n s) := by
  unfold memRead
  split <;> exact respond_keepsLocked hlock _

/-- Reset is the only event that can undo the lock or change a locked configuration. -/
theorem hostEvent_keepsLocked {s t : State} (hlock : s.cfgLock = true) {e : HostEvent} (he : e ≠ .reset)
    (h : hostEvent e s = .next t) : KeepsLocked s t := by
  match e, he, h with
  | .read (.window off) n, _, h => cases h; exact memRead_keepsLocked hlock off n
  | .read (.outside _) _, _, h => cases h; exact respond_keepsLocked hlock _
  | .write (.window _) _ _, _, h => exact memWrite_keepsLocked hlock h
  | .write (.outside _) _ _, _, h => cases h; exact respond_keepsLocked hlock _
  | .reset, he, _ => exact absurd rfl he

/-- The invariant of a run without reset from a locked state `s₀`. -/
structure FrozenSince (s₀ s : State) : Prop where
  locked : s.cfgLock = true
  noReset : HostEvent.reset ∉ s.pending
  config : sameConfig s₀ s

theorem step_keeps_frozenSince {s₀ : State} (s t : State) (hs : FrozenSince s₀ s) (h : step s = .next t) :
    FrozenSince s₀ t := by
  obtain ⟨hlock, hno, hcfg⟩ := hs
  cases hp : s.pending with
  | nil =>
    rw [step_idle hp] at h
    cases h
    exact ⟨hlock, hno, hcfg⟩
  | cons e rest =>
    rw [hp, List.mem_cons, not_or] at hno
    obtain ⟨he, hrest⟩ := hno
    rw [step_event hp] at h
    have hkeep := hostEvent_keepsLocked (s := { s with pending := rest }) hlock (Ne.symm he) h
    exact ⟨hkeep.locked, hkeep.pending ▸ hrest, hcfg.trans hkeep.config⟩

/-! ### The statements -/

/-- Settles O21: being frozen since the first state is kept by every step, so by every run. -/
theorem configurationIsFrozenAlongEveryRun : Obligations.ConfigurationIsFrozenAlongEveryRun := by
  intro n s t hlock hno hrun
  obtain ⟨hlock', -, hcfg⟩ :=
    run_preserves step_keeps_frozenSince n (FrozenSince.mk hlock hno (.refl s)) hrun
  exact ⟨hlock', hcfg⟩

/-- Settles O12: bit `i` of `STATUS` is the flag that stands at `i`, and no flag stands elsewhere. -/
theorem statusReadsItsBits : Obligations.StatusReadsItsBits := by
  intro s i
  have hword : s.readReg (regAt 0x008) = s.statusWord := rfl
  have hsafe : s.safe = decide (s.prot.active = 0) := rfl
  rw [hword, s.getLsbD_statusWord, hsafe]
  split_ifs <;> simp [*]

/-- Settles O14: the write is `writeX` at the offset of `Xn`, answered. -/
theorem dataRegisterWriteReadsBack : Obligations.DataRegisterWriteReadsBack := by
  intro s n v
  refine ⟨(s.writeX n v).respond .okay, ?_, ?_, xAfter_writeX s n v, rfl⟩
  · have hreg : regAt (BitVec.ofNat 12 (0x040 + 4 * n.toNat)).toNat = .x n := by
      rw [toNat_xOffset, regAt_x]
    exact memWrite_reg (legalAccess_xOffset n) hreg (by simp) s v
  · rw [regAt_x]
    exact s.readX_writeX_self n v

/-- Settles O17: the two writes are `clearStatus` and `writeCtrl`, answered. -/
theorem statusAndControlWrites : Obligations.StatusAndControlWrites := fun s v =>
  ⟨memWrite_reg (r := .status) rfl rfl (by simp) s v, memWrite_reg (r := .ctrl) rfl rfl (by simp) s v⟩

end Sys2Proof.Machine

/-! ## Proofs: the window and its register map (20_memory.md R131-R139)

Where each register stands, what a read answers, what an unlocked configuration write stores, and the command
that a write to `CMD` runs. -/

namespace Sys2Proof

/-! ### The decoder on encoded words -/

/-- A command with legal operands passes the checks of 30_encoding.md R177 when its unused fields are 0. -/
theorem accept_of_wellFormed {f : Fields} {unused : List (BitVec 4)} {i : Instr} (hreserved : f.reserved = 0)
    (hunused : unused.all (· == 0) = true) (hwf : i.wellFormed = true) : accept f unused i = .ok i := by
  obtain ⟨hspan, hinst⟩ : i.spansFit = true ∧ i.instanceExists = true := Bool.and_eq_true_iff.1 hwf
  have hzero : ¬ (f.reserved ≠ 0 ∨ ¬ unused.all (· == 0)) := by simp only [hreserved, hunused]; decide
  rw [accept, if_neg hzero, if_neg (not_not_intro hspan), if_neg (not_not_intro hinst)]

/-- The decoder reads the command that a word was encoded from. -/
theorem decode_encode {i : Instr} (hwf : i.wellFormed = true) : decode (encode i) = .ok i := by
  cases i <;>
    exact (congrArg decodeFields (fieldsOf_cmd32 _ _ _ _ _ _)).trans (accept_of_wellFormed rfl rfl hwf)

/-- A 32-bit word is its own word in the opcode table's numbering. -/
theorem tableWord_toNat (w : Word) : tableWord 32 w.toNat = w := by
  simp [tableWord, Nat.mod_eq_of_lt w.isLt]

end Sys2Proof

namespace Sys2Proof.Machine

/-! ### Transactions of the port -/

/-- A word write to `CMD` executes the word, answered OKAY (20_memory.md R137). -/
theorem hostEvent_cmdWrite (w : Word) (s : State) : hostEvent (cmdWrite w) s = execute w (s.respond .okay) := rfl

/-- A step whose event is the write of a legal word to `CMD` is the command of that word (20_memory.md R137). -/
theorem step_cmdWrite {s : State} {w : Word} {i : Instr} {rest : List HostEvent}
    (hpending : s.pending = cmdWrite w :: rest) (hdecode : decode w = .ok i) :
    step s = exec i { s with pending := rest, resp := .okay } := by
  rw [step_event hpending, hostEvent_cmdWrite, execute_ok hdecode]
  rfl

/-- An aligned offset is a legal one for a word access (20_memory.md R133). -/
theorem legalAccess_of_aligned {off : BitVec 12} (haligned : off.toNat % 4 = 0) : legalAccess off 4 = true := by
  simp [legalAccess, haligned]

/-- A word read is the answer of the register at the offset (20_memory.md R135). -/
theorem memRead_word {off : BitVec 12} (haligned : off.toNat % 4 = 0) (s : State) :
    memRead off 4 s = s.respond (.data (s.readReg (regAt off.toNat))) :=
  if_pos (legalAccess_of_aligned haligned)

/-! ### Where the registers stand -/

/-- The offset of a register in a PI block (20_memory.md R138). -/
def PiReg.offset : PiReg → Nat
  | .kp => 0x00
  | .ki => 0x04
  | .umax => 0x08
  | .umin => 0x0C
  | .integ => 0x10
  | .perr => 0x14
  | .out => 0x18
  | .flags => 0x1C

/-- The offset of a register in a PR block (20_memory.md R138). -/
def PrReg.offset : PrReg → Nat
  | .kp => 0x00
  | .kr => 0x04
  | .wc => 0x08
  | .umax => 0x0C
  | .umin => 0x10
  | .w0 => 0x14
  | .b0 => 0x18
  | .b1 => 0x1C
  | .b2 => 0x20
  | .a1 => 0x24
  | .a2 => 0x28
  | .w1Lo => 0x2C
  | .w1Hi => 0x30
  | .w2Lo => 0x34
  | .w2Hi => 0x38
  | .out => 0x3C
  | .flags => 0x40

/-- The offset of a register in the PLL block (20_memory.md R138). -/
def PllReg.offset : PllReg → Nat
  | .kp => 0x00
  | .ki => 0x04
  | .wff => 0x08
  | .wmin => 0x0C
  | .wmax => 0x10
  | .lockThr => 0x14
  | .lockN => 0x18
  | .theta => 0x20
  | .omega => 0x24
  | .integ => 0x28
  | .vd => 0x2C
  | .vq => 0x30
  | .vmag => 0x34
  | .lstat => 0x38

/-- The offset of a register in the SVM block (20_memory.md R138). -/
def SvmReg.offset : SvmReg → Nat
  | .dutyA => 0x0
  | .dutyB => 0x4
  | .dutyC => 0x8
  | .sector => 0xC

/-- The offset of a register in the protection block (20_memory.md R138). -/
def ProtReg.offset : ProtReg → Nat
  | .imax => 0x00
  | .vdcmax => 0x04
  | .vdcmin => 0x08
  | .tmax => 0x0C
  | .debounce => 0x10
  | .active => 0x20
  | .latched => 0x24
  | .trig => 0x28
  | .cntOc => 0x2C
  | .cntOv => 0x30
  | .cntUv => 0x34
  | .cntOt => 0x38

/-- The one offset at which a register of the window stands: `regAt` read backwards (`regAt_eq_iff`). No
register is unmapped, so the last value stands for nothing. -/
def WinReg.offset : WinReg → Nat
  | .id => 0x000
  | .ctrl => 0x004
  | .status => 0x008
  | .cmd => 0x00C
  | .ts => 0x010
  | .x n => 0x040 + 4 * n.toNat
  | .pi k r => 0x100 + 0x20 * k.val + r.offset
  | .pr j r => 0x200 + 0x80 * j.val + r.offset
  | .pll r => 0x300 + r.offset
  | .svm r => 0x380 + r.offset
  | .prot r => 0x400 + r.offset
  | .unmapped => 0

/-- The word offsets of the window that the map leaves without a register (20_memory.md R138; `0x180`..`0x1FF`
by log entry 11). -/
def InGap (off : Nat) : Prop :=
  (0x014 ≤ off ∧ off < 0x040) ∨ (0x080 ≤ off ∧ off < 0x100) ∨ (0x180 ≤ off ∧ off < 0x200) ∨
  (0x244 ≤ off ∧ off < 0x280) ∨ (0x2C4 ≤ off ∧ off < 0x300) ∨ off = 0x31C ∨ (0x33C ≤ off ∧ off < 0x380) ∨
  (0x390 ≤ off ∧ off < 0x400) ∨ (0x414 ≤ off ∧ off < 0x420) ∨ 0x43C ≤ off

/-- Eight words of a PI block, each at its own offset. -/
theorem piRegAt_offset {word : Nat} (h : word < 8) : (piRegAt word).offset = 4 * word := by
  interval_cases word <;> rfl

/-- A PR block has seventeen registers, and words with none after them. -/
theorem prRegAt_cases (word : Nat) :
    (17 ≤ word ∧ prRegAt word = none) ∨ ∃ r, prRegAt word = some r ∧ r.offset = 4 * word := by
  by_cases h : word < 17
  · right
    interval_cases word <;> exact ⟨_, rfl, rfl⟩
  · left
    obtain ⟨tail, rfl⟩ : ∃ tail, word = tail + 17 := ⟨word - 17, by omega⟩
    exact ⟨by omega, rfl⟩

/-- Outside the blocks that repeat, a word offset is in a gap of the map or in one of six runs of registers. -/
theorem inGap_or_run {off : Nat} (haligned : off % 4 = 0) (hx : ¬ (0x040 ≤ off ∧ off < 0x080))
    (hpi : ¬ (0x100 ≤ off ∧ off < 0x180)) (hpr : ¬ (0x200 ≤ off ∧ off < 0x300)) :
    InGap off ∨ off < 0x014 ∨ (0x300 ≤ off ∧ off < 0x31C) ∨ (0x320 ≤ off ∧ off < 0x33C) ∨
      (0x380 ≤ off ∧ off < 0x390) ∨ (0x400 ≤ off ∧ off < 0x414) ∨ (0x420 ≤ off ∧ off < 0x43C) := by
  unfold InGap
  omega

/-- Outside the blocks that repeat, a word offset is in a gap of the map or the offset of the register there. -/
theorem singleRegAt_cases {off : Nat} (haligned : off % 4 = 0) (hx : ¬ (0x040 ≤ off ∧ off < 0x080))
    (hpi : ¬ (0x100 ≤ off ∧ off < 0x180)) (hpr : ¬ (0x200 ≤ off ∧ off < 0x300)) :
    (InGap off ∧ singleRegAt off = .unmapped) ∨
    (singleRegAt off ≠ .unmapped ∧ (singleRegAt off).offset = off) := by
  unfold singleRegAt
  split
  case h_36 =>
    left
    refine ⟨?_, rfl⟩
    -- `split` says of each mapped offset `off = _ → False`, which `omega` does not read
    simp only [imp_false] at *
    obtain hgap | hrun := inGap_or_run haligned hx hpi hpr
    · exact hgap
    · rcases hrun with h | h | h | h | h | h <;> omega
  all_goals exact .inr ⟨by simp, rfl⟩

/-- A word offset is in a gap of the map, or it is the offset of the register that stands there. -/
theorem regAt_cases {off : Nat} (haligned : off % 4 = 0) :
    (InGap off ∧ regAt off = .unmapped) ∨ (regAt off ≠ .unmapped ∧ (regAt off).offset = off) := by
  unfold regAt
  split_ifs with hx hpi hpr
  · right
    have hn : (off - 0x040) / 4 < 16 := by omega
    simp only [WinReg.offset, BitVec.toNat_ofNat]
    refine ⟨by simp, by omega⟩
  · right
    have hword : (off - 0x100) % 0x20 / 4 < 8 := by omega
    simp only [WinReg.offset, piRegAt_offset hword, Fin.val_ofNat]
    refine ⟨by simp, by omega⟩
  · obtain ⟨htail, hnone⟩ | ⟨r, hsome, hoff⟩ := prRegAt_cases ((off - 0x200) % 0x80 / 4)
    · left
      simp only [hnone, InGap, and_true]
      omega
    · right
      simp only [hsome, WinReg.offset, hoff, Fin.val_ofNat]
      refine ⟨by simp, by omega⟩
  · exact singleRegAt_cases haligned hx hpi hpr

/-- Every register stands at its offset. -/
theorem regAt_offset {r : WinReg} (hr : r ≠ .unmapped) : regAt r.offset = r := by
  cases r with
  | x n => exact regAt_x n
  | pi k r => fin_cases k <;> cases r <;> rfl
  | pr j r => fin_cases j <;> cases r <;> rfl
  | pll r => cases r <;> rfl
  | svm r => cases r <;> rfl
  | prot r => cases r <;> rfl
  | unmapped => exact absurd rfl hr
  | _ => rfl

/-- A register stands at its offset and at no other. -/
theorem regAt_eq_iff {off : Nat} (haligned : off % 4 = 0) {r : WinReg} (hr : r ≠ .unmapped) :
    regAt off = r ↔ off = r.offset := by
  constructor
  · rintro rfl
    obtain ⟨-, hnone⟩ | ⟨-, hoff⟩ := regAt_cases haligned
    · exact absurd hnone hr
    · exact hoff.symm
  · rintro rfl
    exact regAt_offset hr

/-- No register stands in a gap. -/
theorem not_inGap_offset {r : WinReg} (hr : r ≠ .unmapped) : ¬ InGap r.offset := by
  unfold InGap
  cases r with
  | unmapped => exact absurd rfl hr
  | x n =>
    have hn := n.isLt
    simp only [WinReg.offset]
    omega
  | pi k r => cases r <;> simp only [WinReg.offset, PiReg.offset] <;> omega
  | pr j r => cases r <;> simp only [WinReg.offset, PrReg.offset] <;> omega
  | pll r => cases r <;> simp [WinReg.offset, PllReg.offset]
  | svm r => cases r <;> simp [WinReg.offset, SvmReg.offset]
  | prot r => cases r <;> simp [WinReg.offset, ProtReg.offset]
  | _ => simp [WinReg.offset]

/-- The word offsets without a register are exactly the gaps of the map. -/
theorem regAt_eq_unmapped_iff {off : Nat} (haligned : off % 4 = 0) : regAt off = .unmapped ↔ InGap off := by
  obtain ⟨hgap, hnone⟩ | ⟨hsome, hoff⟩ := regAt_cases haligned
  · exact iff_of_true hnone hgap
  · exact iff_of_false hsome (hoff ▸ not_inGap_offset hsome)

/-! ### What the registers read as -/

/-- A flag alone in bit 0. -/
theorem flagAt_zero (b : Bool) : flagAt b 0 = BitVec.ofNat 32 b.toNat := by cases b <;> rfl

/-- `STATUS` as the sum of its flags, each at the weight of its bit (10_state.md R45). -/
theorem State.statusWord_eq_sum (s : State) :
    s.statusWord = BitVec.ofNat 32 (s.ill.toNat + 2 * s.argerr.toNat + 4 * s.satf.toNat + 8 * s.wlock.toNat
      + 256 * s.safe.toNat + 512 * s.pll.lock.toNat) := by
  have hflags : ∀ ill argerr satf wlock safe lock : Bool,
      flagAt ill 0 ||| flagAt argerr 1 ||| flagAt satf 2 ||| flagAt wlock 3 ||| flagAt safe 8 ||| flagAt lock 9 =
        BitVec.ofNat 32 (ill.toNat + 2 * argerr.toNat + 4 * satf.toNat + 8 * wlock.toNat + 256 * safe.toNat
          + 512 * lock.toNat) := by decide
  exact hflags _ _ _ _ _ _

/-- A field narrower than a word reads as its value. -/
theorem zeroExtend_word {n : Nat} (v : BitVec n) : v.zeroExtend 32 = BitVec.ofNat 32 v.toNat :=
  (BitVec.ofNat_toNat 32 v).symm

/-- The `_LO` word of a cell is its value modulo `2^32` (10_state.md R64). -/
theorem cell_lo (c : Cell) : c.extractLsb' 0 32 = BitVec.ofNat 32 (c.toNat % 2 ^ 32) := by
  rw [BitVec.extractLsb', Nat.shiftRight_zero]
  exact BitVec.eq_of_toNat_eq (by simp)

/-- The `_HI` word of a cell is its value divided by `2^32` (10_state.md R64). -/
theorem cell_hi (c : Cell) : c.extractLsb' 32 32 = BitVec.ofNat 32 (c.toNat / 2 ^ 32) := by
  rw [BitVec.extractLsb', Nat.shiftRight_eq_div_pow]

/-- `LSTAT` has `LOCK` at weight 1 and `LCNT` at weight `2^16` (10_state.md R80). -/
theorem lstatWord_eq_sum (p : PllUnit) :
    lstatWord p = BitVec.ofNat 32 (p.lock.toNat + 65536 * p.lcnt.toNat) := by
  have hcnt := p.lcnt.isLt
  have hlow : ((flagAt p.lock 0).extractLsb' 0 16).toNat = p.lock.toNat := by cases p.lock <;> rfl
  have hlock := p.lock.toNat_lt
  refine BitVec.eq_of_toNat_eq ?_
  rw [lstatWord, BitVec.toNat_append, hlow, ← Nat.shiftLeft_add_eq_or_of_lt (by omega), Nat.shiftLeft_eq,
    BitVec.toNat_ofNat, Nat.mod_eq_of_lt (by omega)]
  omega

/-- The word that stands at the offset of a register. -/
theorem State.readReg_offset (s : State) {r : WinReg} (hr : r ≠ .unmapped) :
    s.readReg (regAt r.offset) = s.readReg r := by rw [regAt_offset hr]

/-! ### What a configuration write stores -/

/-- A configuration register is one of those at the offsets of type `CFG` of the map (20_memory.md R138). -/
theorem access_eq_cfg_iff {r : WinReg} (hr : r ≠ .unmapped) :
    r.access = .cfg ↔ r.offset = 0x010 ∨
      (0x100 ≤ r.offset ∧ r.offset < 0x180 ∧ r.offset % 0x20 < 0x10) ∨
      (0x200 ≤ r.offset ∧ r.offset < 0x300 ∧ r.offset % 0x80 < 0x14) ∨
      (0x300 ≤ r.offset ∧ r.offset < 0x31C) ∨ (0x400 ≤ r.offset ∧ r.offset < 0x414) := by
  cases r with
  | unmapped => exact absurd rfl hr
  | x n =>
    have hn := n.isLt
    simp only [WinReg.offset, WinReg.access, reduceCtorEq, false_iff]
    omega
  | pi k r => fin_cases k <;> cases r <;> decide
  | pr j r => fin_cases j <;> cases r <;> decide
  | pll r => cases r <;> decide
  | svm r => cases r <;> decide
  | prot r => cases r <;> decide
  | _ => decide

/-- The word that a write leaves in a register of type `CFG`: `LOCK_N` and `DEBOUNCE` keep bits 15:0, the
others keep all (20_memory.md R136; 10_state.md R73, R87). -/
def WinReg.fieldOf (r : WinReg) (v : Word) : Word :=
  if r = .pll .lockN ∨ r = .prot .debounce then v &&& 0x0000FFFF else v

/-- A 16-bit field stored from a word reads as bits 15:0 of that word. -/
theorem zeroExtend_low16 (v : Word) : (v.extractLsb' 0 16).zeroExtend 32 = v &&& 0x0000FFFF := by
  refine BitVec.eq_of_toNat_eq ?_
  have hlow : v.toNat % 2 ^ 16 % 2 ^ 32 = v.toNat % 2 ^ 16 := by omega
  rw [zeroExtend_word, BitVec.toNat_and, BitVec.extractLsb', Nat.shiftRight_zero, BitVec.toNat_ofNat,
    BitVec.toNat_ofNat, hlow]
  exact (Nat.and_two_pow_sub_one_eq_mod v.toNat 16).symm

/-- A store to a PI block changes the configuration register it names and no other register. -/
theorem readPi_storePi (p : PiUnit) (r q : PiReg) (v : Word) :
    readPi (storePi r v p) q = if q = r ∧ r.isCfg = true then v else readPi p q := by
  cases r <;> cases q <;> rfl

/-- A store to a PR block changes the configuration register it names and no other register. -/
theorem readPr_storePr (p : PrUnit) (r q : PrReg) (v : Word) :
    readPr (storePr r v p) q = if q = r ∧ r.isCfg = true then v else readPr p q := by
  cases r <;> cases q <;> rfl

/-- A store to the PLL block changes the configuration register it names, `LOCK_N` masked, and no other. -/
theorem readPll_storePll (p : PllUnit) (r q : PllReg) (v : Word) :
    readPll (storePll r v p) q =
      if q = r ∧ r.isCfg = true then (WinReg.pll r).fieldOf v else readPll p q := by
  cases r with
  | lockN =>
    cases q with
    | lockN => exact zeroExtend_low16 v
    | _ => rfl
  | _ => cases q <;> rfl

/-- A store to the protection block changes the configuration register it names, `DEBOUNCE` masked, and no
other. -/
theorem readProt_storeProt (p : ProtUnit) (r q : ProtReg) (v : Word) :
    readProt (storeProt r v p) q =
      if q = r ∧ r.isCfg = true then (WinReg.prot r).fieldOf v else readProt p q := by
  cases r with
  | debounce =>
    cases q with
    | debounce => exact zeroExtend_low16 v
    | _ => rfl
  | _ => cases q <;> rfl

/-- `STATUS.PLL_LOCK` is not configuration. -/
theorem storePll_lock (p : PllUnit) (r : PllReg) (v : Word) : (storePll r v p).lock = p.lock := by
  cases r <;> rfl

/-- The mask behind `STATUS.SAFE` is not configuration. -/
theorem storeProt_active (p : ProtUnit) (r : ProtReg) (v : Word) : (storeProt r v p).active = p.active := by
  cases r <;> rfl

/-- A configuration register reads back the word stored into it, masked to its field. -/
theorem State.readReg_storeCfg_self (s : State) {r : WinReg} (v : Word) (hr : r.access = .cfg) :
    (s.storeCfg r v).readReg r = r.fieldOf v := by
  cases r with
  | ts => rfl
  | pi k r =>
    have hcfg : r.isCfg = true := by simpa [WinReg.access] using hr
    simp [State.readReg, State.storeCfg, readPi_storePi, hcfg, WinReg.fieldOf]
  | pr j r =>
    have hcfg : r.isCfg = true := by simpa [WinReg.access] using hr
    simp [State.readReg, State.storeCfg, readPr_storePr, hcfg, WinReg.fieldOf]
  | pll r =>
    have hcfg : r.isCfg = true := by simpa [WinReg.access] using hr
    simp [State.readReg, State.storeCfg, readPll_storePll, hcfg]
  | prot r =>
    have hcfg : r.isCfg = true := by simpa [WinReg.access] using hr
    simp [State.readReg, State.storeCfg, readProt_storeProt, hcfg]
  | _ => cases hr

/-- Every other register reads as before the store. -/
theorem State.readReg_storeCfg_of_ne (s : State) {r q : WinReg} (v : Word) (hq : q ≠ r) :
    (s.storeCfg r v).readReg q = s.readReg q := by
  cases r with
  | ts =>
    cases q with
    | ts => exact absurd rfl hq
    | _ => rfl
  | pi k r =>
    cases q with
    | pi i q =>
      simp only [State.readReg, State.storeCfg, State.setPi_get]
      split
      · next hik => subst hik; rw [readPi_storePi, if_neg fun h : q = r ∧ _ => hq (h.1 ▸ rfl)]
      · rfl
    | _ => rfl
  | pr j r =>
    cases q with
    | pr i q =>
      simp only [State.readReg, State.storeCfg, State.setPr_get]
      split
      · next hij => subst hij; rw [readPr_storePr, if_neg fun h : q = r ∧ _ => hq (h.1 ▸ rfl)]
      · rfl
    | _ => rfl
  | pll r =>
    cases q with
    | pll q => exact (readPll_storePll s.pll r q v).trans (if_neg fun h : q = r ∧ _ => hq (h.1 ▸ rfl))
    | status => simp [State.readReg, State.storeCfg, State.statusWord, State.safe, storePll_lock]
    | _ => rfl
  | prot r =>
    cases q with
    | prot q => exact (readProt_storeProt s.prot r q v).trans (if_neg fun h : q = r ∧ _ => hq (h.1 ▸ rfl))
    | status => simp [State.readReg, State.storeCfg, State.statusWord, State.safe, storeProt_active]
    | _ => rfl
  | _ => rfl

@[simp] theorem State.storeCfg_pending (s : State) (r : WinReg) (v : Word) :
    (s.storeCfg r v).pending = s.pending := by cases r <;> rfl

/-- Only `LOCK_N` and `DEBOUNCE` are masked, and they stand at `0x318` and `0x410`. -/
theorem fieldOf_regAt {off : BitVec 12} (haligned : off.toNat % 4 = 0) (v : Word) :
    (regAt off.toNat).fieldOf v = if off = 0x318 ∨ off = 0x410 then v &&& 0x0000FFFF else v := by
  have hlockN : regAt off.toNat = .pll .lockN ↔ off = 0x318 :=
    (regAt_eq_iff haligned (by simp)).trans (BitVec.toNat_inj (y := 0x318))
  have hdebounce : regAt off.toNat = .prot .debounce ↔ off = 0x410 :=
    (regAt_eq_iff haligned (by simp)).trans (BitVec.toNat_inj (y := 0x410))
  simp only [WinReg.fieldOf, hlockN, hdebounce]

/-- An unlocked word write to a configuration register stores the word, answered OKAY (20_memory.md R134). -/
theorem memWrite_cfg_unlocked {off : BitVec 12} (haligned : off.toNat % 4 = 0) {s : State}
    (hcfg : (regAt off.toNat).access = .cfg) (hlock : s.cfgLock = false) (v : Word) :
    memWrite off 4 v s = .next ((s.storeCfg (regAt off.toNat) v).respond .okay) := by
  have hcmd : regAt off.toNat ≠ .cmd := fun h => by simp [h, WinReg.access] at hcfg
  rw [memWrite_reg (legalAccess_of_aligned haligned) rfl hcmd, s.writeReg_cfg _ v hcfg]
  obtain ⟨hlocked, -⟩ | ⟨-, hstore⟩ := s.writeCfg_cases (regAt off.toNat) v
  · simp [hlock] at hlocked
  · rw [hstore]

/-! ### The statements -/

/-- Settles O15: the write is `storeCfg` at the register of the offset. -/
theorem configurationWriteStoresTheMaskedWord : Obligations.ConfigurationWriteStoresTheMaskedWord := by
  refine ⟨fun s off v haligned hcfg hlock => ?_, fun off haligned => ?_⟩
  · refine ⟨_, memWrite_cfg_unlocked haligned hcfg hlock v, ?_, fun q hq => ?_, s.storeCfg_pending _ v, rfl⟩
    · exact (s.readReg_storeCfg_self v hcfg).trans (fieldOf_regAt haligned v)
    · exact s.readReg_storeCfg_of_ne v hq
  · have hts : off = 0x010 ↔ off.toNat = 0x010 := (BitVec.toNat_inj (y := 0x010)).symm
    rw [hts]
    obtain ⟨hgap, hnone⟩ | ⟨hsome, hoff⟩ := regAt_cases haligned
    · rw [hnone]
      unfold InGap at hgap
      simp only [WinReg.access, reduceCtorEq, false_iff]
      omega
    · have hiff := access_eq_cfg_iff hsome
      rwa [hoff] at hiff

/-- Settles O13: a register stands at each word offset that is not in a gap, and a gap is read as 0 and
written without effect. -/
theorem unmappedOffsetsReadZeroAndIgnoreWrites : Obligations.UnmappedOffsetsReadZeroAndIgnoreWrites := by
  intro off haligned
  refine ⟨regAt_eq_unmapped_iff haligned, fun hnone s v => ⟨?_, ?_⟩⟩
  · rw [memRead_word haligned, hnone]
    rfl
  · exact memWrite_reg (legalAccess_of_aligned haligned) hnone (by simp) s v

/-- The decoder of a window at an aligned base is the test of the address's page (20_memory.md R131). -/
theorem busAddrAt_page (page addr : Nat) : busAddrAt (4096 * page) addr =
    if addr / 4096 = page then .window (BitVec.ofNat 12 (addr % 4096)) else .outside addr := by
  unfold busAddrAt Config.windowBytes
  have hpage : (4096 * page ≤ addr ∧ addr < 4096 * page + 4096) ↔ addr / 4096 = page := by omega
  simp only [hpage]
  split
  · have hoff : addr - 4096 * page = addr % 4096 := by omega
    rw [hoff]
  · rfl

/-- Settles O18: the decoder is the page test, and the port leaves a transaction outside unanswered. -/
theorem windowIsThePageOfTheBase : Obligations.WindowIsThePageOfTheBase := by
  refine ⟨busAddrAt_page, fun s rest a n v hpending => ?_⟩
  refine ⟨({ s with pending := rest } : State).respond .silent, ?_, rfl⟩
  obtain hread | hwrite := hpending
  · exact step_event hread
  · exact step_event hwrite

/-- Settles O5: the step runs the word at the head of the queue, and the decoder reads an encoded command
back. -/
theorem stepRunsTheDecodedCommand : Obligations.StepRunsTheDecodedCommand := by
  refine ⟨fun s w i rest => step_cmdWrite, fun s i hwf => ?_⟩
  refine step_cmdWrite (s := s.withFetchWord 32 (encode i).toNat) ?_ (decode_encode hwf)
  rw [State.withFetchWord, tableWord_toNat]

/-- Settles O11: a read is the answer of the register at the offset, and each register stands at its offset. -/
theorem readAnswersAndChangesNothing : Obligations.ReadAnswersAndChangesNothing := by
  refine ⟨fun s rest off haligned hpending => ?_, fun s => ?_⟩
  · rw [step_event hpending]
    exact congrArg Host.Outcome.next (memRead_word haligned _)
  · refine ⟨rfl, flagAt_zero _, s.statusWord_eq_sum, rfl, rfl, fun n => ?_, fun k => ?_, fun j => ?_, ?_, ?_, ?_⟩
    · exact congrArg s.readReg (regAt_x (BitVec.ofFin n))
    · have hread (r : PiReg) : s.readReg (regAt (0x100 + 0x20 * k.val + r.offset)) = readPi s.pi[k] r :=
        s.readReg_offset (r := .pi k r) (by simp)
      exact ⟨hread .kp, hread .ki, hread .umax, hread .umin, hread .integ, hread .perr, hread .out,
        (hread .flags).trans (flagAt_zero _)⟩
    · have hread (r : PrReg) : s.readReg (regAt (0x200 + 0x80 * j.val + r.offset)) = readPr s.pr[j] r :=
        s.readReg_offset (r := .pr j r) (by simp)
      exact ⟨hread .kp, hread .kr, hread .wc, hread .umax, hread .umin, hread .w0, hread .b0, hread .b1,
        hread .b2, hread .a1, hread .a2, (hread .w1Lo).trans (cell_lo _), (hread .w1Hi).trans (cell_hi _),
        (hread .w2Lo).trans (cell_lo _), (hread .w2Hi).trans (cell_hi _), hread .out,
        (hread .flags).trans (flagAt_zero _)⟩
    · have hread (r : PllReg) : s.readReg (regAt (0x300 + r.offset)) = readPll s.pll r :=
        s.readReg_offset (r := .pll r) (by simp)
      exact ⟨hread .kp, hread .ki, hread .wff, hread .wmin, hread .wmax, hread .lockThr,
        (hread .lockN).trans (zeroExtend_word _), hread .theta, hread .omega, hread .integ, hread .vd, hread .vq,
        hread .vmag, (hread .lstat).trans (lstatWord_eq_sum _)⟩
    · have hread (r : SvmReg) : s.readReg (regAt (0x380 + r.offset)) = readSvm s.svm r :=
        s.readReg_offset (r := .svm r) (by simp)
      exact ⟨hread .dutyA, hread .dutyB, hread .dutyC, (hread .sector).trans (zeroExtend_word _)⟩
    · have hread (r : ProtReg) : s.readReg (regAt (0x400 + r.offset)) = readProt s.prot r :=
        s.readReg_offset (r := .prot r) (by simp)
      exact ⟨hread .imax, hread .vdcmax, hread .vdcmin, hread .tmax, (hread .debounce).trans (zeroExtend_word _),
        (hread .active).trans (zeroExtend_word _), (hread .latched).trans (zeroExtend_word _),
        (hread .trig).trans (flagAt_zero _), (hread .cntOc).trans (zeroExtend_word _),
        (hread .cntOv).trans (zeroExtend_word _), (hread .cntUv).trans (zeroExtend_word _),
        (hread .cntOt).trans (zeroExtend_word _)⟩

end Sys2Proof.Machine

/-! ## Proofs: the command word (30_encoding.md R171-R177)

A command word is its fields, and both readings of its legality, the decoder and the masks of the opcode map,
say the same of the fields: that they are those of the encoded word of a command with legal operands. -/

namespace Sys2Proof

/-! ### The fields of a word -/

/-- The seven fields cover the word (30_encoding.md R171). -/
theorem fieldsOf_injective : Function.Injective fieldsOf := by
  intro v w h
  have bits {k n : Nat} (h : v.extractLsb' k n = w.extractLsb' k n) :
      v.toNat >>> k % 2 ^ n = w.toNat >>> k % 2 ^ n := by
    simpa only [BitVec.extractLsb'_toNat] using congrArg BitVec.toNat h
  simp only [fieldsOf, Fields.mk.injEq] at h
  obtain ⟨hop, hrd, hrs1, hrs2, hrs3, hinst, hreserved⟩ := h
  replace hop := bits hop
  replace hrd := bits hrd
  replace hrs1 := bits hrs1
  replace hrs2 := bits hrs2
  replace hrs3 := bits hrs3
  replace hinst := bits hinst
  replace hreserved := bits hreserved
  simp only [Nat.shiftRight_eq_div_pow] at *
  have hv := v.isLt
  have hw := w.isLt
  apply BitVec.eq_of_toNat_eq
  omega

/-- A mask acts on each field by itself. -/
theorem fieldsOf_and (w m : Word) : fieldsOf (w &&& m) =
    ⟨(fieldsOf w).op &&& (fieldsOf m).op, (fieldsOf w).rd &&& (fieldsOf m).rd,
      (fieldsOf w).rs1 &&& (fieldsOf m).rs1, (fieldsOf w).rs2 &&& (fieldsOf m).rs2,
      (fieldsOf w).rs3 &&& (fieldsOf m).rs3, (fieldsOf w).inst &&& (fieldsOf m).inst,
      (fieldsOf w).reserved &&& (fieldsOf m).reserved⟩ := by
  simp only [fieldsOf, BitVec.extractLsb'_and]

/-! ### What the decoder accepts -/

/-- The checks after the opcode accept only the command they are given, with the unused fields 0 and legal
operands (30_encoding.md R173-R175). -/
theorem accept_ok {f : Fields} {unused : List (BitVec 4)} {i j : Instr} (h : accept f unused j = .ok i) :
    j = i ∧ i.wellFormed = true ∧ f.reserved = 0 ∧ ∀ u ∈ unused, u = 0 := by
  unfold accept at h
  split at h
  · cases h
  next hzero =>
    split at h
    · cases h
    next hspan =>
      split at h
      · cases h
      next hinst =>
        cases h
        simp only [not_or, not_not, List.all_eq_true, beq_iff_eq] at hzero hspan hinst
        exact ⟨rfl, Bool.and_eq_true_iff.2 ⟨hspan, hinst⟩, hzero⟩

/-- The decoder accepts only the fields of the command's own word. -/
theorem decodeFields_ok {f : Fields} {i : Instr} (h : decodeFields f = .ok i) :
    i.wellFormed = true ∧ fieldsOf (encode i) = f := by
  obtain ⟨op, rd, rs1, rs2, rs3, inst, reserved⟩ := f
  unfold decodeFields at h
  split at h
  case h_17 => cases h  -- no opcode of the map
  all_goals
    next hop =>
      obtain ⟨hi, hwf, hreserved, hunused⟩ := accept_ok h
      have hopcode : op = i.opcode := by
        subst hi
        exact BitVec.eq_of_toNat_eq hop
      simp only [List.forall_mem_cons, List.not_mem_nil] at hreserved hunused
      subst hi
      simp [encode, fieldsOf_cmd32, hopcode, hwf, hreserved, hunused]

/-- A word that decodes is the word of its command. -/
theorem decode_ok {w : Word} {i : Instr} (h : decode w = .ok i) : i.wellFormed = true ∧ encode i = w :=
  (decodeFields_ok h).imp_right fun hfields => fieldsOf_injective hfields

/-- The decoder reads a word exactly as the command with legal operands whose word it is. -/
theorem decode_ok_iff {w : Word} {i : Instr} : decode w = .ok i ↔ i.wellFormed = true ∧ encode i = w := by
  refine ⟨decode_ok, ?_⟩
  rintro ⟨hwf, rfl⟩
  exact decode_encode hwf

/-! ### What the masks of the opcode map accept -/

/-- `Legal(w)` for one row of the opcode map (30_encoding.md R177). -/
def OpcodeRow.admits (r : OpcodeRow) (w : Word) : Prop :=
  w &&& r.mask = r.pattern ∧ (fieldsOf w).rd.toNat ≤ r.maxRd ∧ (fieldsOf w).rs1.toNat ≤ r.maxRs1 ∧
    (fieldsOf w).inst.toNat < r.instances

theorem legalWord_iff_admits (w : Word) : legalWord w = true ↔ ∃ r ∈ opcodeRows, r.admits w := by
  simp [legalWord, OpcodeRow.admits, fieldsOf, BitVec.extractLsb'_toNat, and_assoc]

/-- Each row of the opcode map (30_encoding.md R176) with its command, the operands taken from the fields `f`. -/
def rowCommands (f : Fields) : List (OpcodeRow × Instr) :=
  opcodeRows.zip
    [.clarke f.rd f.rs1 f.rs2 f.rs3, .iclarke f.rd f.rs1 f.rs2, .park f.rd f.rs1 f.rs2 f.rs3,
      .ipark f.rd f.rs1 f.rs2 f.rs3, .piUpd f.rd f.rs1 f.rs2 f.inst, .piRst f.inst,
      .prUpd f.rd f.rs1 f.rs2 f.inst, .prRst f.inst, .prSetf f.rs1 f.inst, .pllUpd f.rd f.rs1 f.rs2, .pllRst,
      .svmCalc f.rd f.rs1 f.rs2 f.rs3, .svmMid, .protUpd f.rd f.rs1, .protClr, .protSet f.rs1]

theorem rowCommands_rows (f : Fields) : (rowCommands f).map Prod.fst = opcodeRows := rfl

/-- A command is among those that have the operands of its own word. -/
theorem mem_rowCommands_encode (i : Instr) : ∃ r, (r, i) ∈ rowCommands (fieldsOf (encode i)) := by
  cases i <;> simp [rowCommands, opcodeRows, encode, fieldsOf_cmd32]

/-- A row admits a word exactly when the word is that of the row's command and the operands are legal: the mask
fixes the opcode and the unused fields, and the row's bounds are those of R173 and R174. -/
theorem admits_iff_encode (w : Word) :
    ∀ p ∈ rowCommands (fieldsOf w), p.1.admits w ↔ p.2.wellFormed = true ∧ encode p.2 = w := by
  intro p hrow
  rw [OpcodeRow.admits, ← fieldsOf_injective.eq_iff, fieldsOf_and, and_comm (a := p.2.wellFormed = true),
    eq_comm (a := encode p.2), ← fieldsOf_injective.eq_iff (a := w)]
  generalize fieldsOf w = f at hrow ⊢
  obtain ⟨op, rd, rs1, rs2, rs3, inst, reserved⟩ := f
  have field_mask (x : BitVec 4) : x &&& 15#4 = x := BitVec.and_allOnes
  have opcode_mask : op &&& 255#8 = op := BitVec.and_allOnes
  have field_le (x : BitVec 4) : x.toNat ≤ 15 := Nat.le_of_lt_succ x.isLt
  have field_lt (x : BitVec 4) : x.toNat < 16 := x.isLt
  revert p
  simp only [rowCommands, opcodeRows, List.zip_cons_cons, List.zip_nil_left, List.forall_mem_cons, List.not_mem_nil,
    false_implies, implies_true, and_true, encode, fieldsOf_cmd32]
  and_intros
  all_goals
    simp [fieldsOf, Instr.opcode, Instr.wellFormed, Instr.spansFit, Instr.instanceExists, spanFits, Config.numX,
      Config.numPi, field_mask, opcode_mask, field_le, field_lt]

/-- The legal words are the words of the commands with legal operands. -/
theorem legalWord_iff_encode (w : Word) : legalWord w = true ↔ ∃ i : Instr, i.wellFormed = true ∧ encode i = w := by
  rw [legalWord_iff_admits, ← rowCommands_rows (fieldsOf w)]
  simp only [List.mem_map, Prod.exists, exists_and_right, exists_eq_right]
  constructor
  · rintro ⟨r, ⟨i, hrow⟩, hadmits⟩
    exact ⟨i, (admits_iff_encode w _ hrow).1 hadmits⟩
  · rintro ⟨i, hwf, rfl⟩
    obtain ⟨r, hrow⟩ := mem_rowCommands_encode i
    exact ⟨r, ⟨i, hrow⟩, (admits_iff_encode _ _ hrow).2 ⟨hwf, rfl⟩⟩

theorem legalWord_iff_decode (w : Word) : legalWord w = true ↔ ∃ i, decode w = .ok i := by
  simp only [legalWord_iff_encode, decode_ok_iff]

end Sys2Proof

namespace Sys2Proof.Machine

/-- An illegal word executes to `ILL` alone (60_exceptions.md R431). -/
theorem execute_illegal {w : Word} (h : legalWord w = false) (s : State) :
    execute w s = .next { s with ill := true } := by
  cases hdecode : decode w with
  | ok i => exact absurd ((legalWord_iff_decode w).2 ⟨i, hdecode⟩) (by simp [h])
  | error e => exact execute_error hdecode s

/-! ### The obligations -/

/-- Settles O4: the decoder evaluates each word. -/
theorem sampleWordsDecode : Obligations.SampleWordsDecode :=
  ⟨rfl, rfl, rfl, rfl, rfl, rfl, rfl, rfl, rfl, rfl, rfl, rfl, rfl, rfl, rfl, rfl, rfl, rfl, rfl, rfl⟩

/-- Settles O3: the masks and the decoder both accept the words of the commands with legal operands. -/
theorem decodedWordsAreTheLegalOnes : Obligations.DecodedWordsAreTheLegalOnes :=
  ⟨legalWord_iff_decode, fun _ s h => execute_illegal h s⟩

/-- Settles O2: the fields of a word that decodes are those of its command's word, and fix the word. -/
theorem encodeOfDecodeIsTheWord : Obligations.EncodeOfDecodeIsTheWord := fun _ _ => decode_ok

/-- Settles O1: the fields of an encoded word are the command's, and legal operands pass the checks. -/
theorem decodeOfEncodeIsTheCommand : Obligations.DecodeOfEncodeIsTheCommand := fun _ => decode_encode

end Sys2Proof.Machine

/-! ## Proofs: the arithmetic (40_numerics.md R211-R221)

What the roundings, saturations, division, square root, and the sine and cosine answer. -/

namespace Sys2Proof.Machine

/-! ### Rounding, saturation and clamp -/

theorem asr_eq_shiftRight (v : Int) (i : Nat) : asr v i = v >>> i :=
  (Int.shiftRight_eq_div_pow v i).symm

theorem rnd_eq_asr (k : Nat) (x : Int) : rnd k x = asr (x + 2 ^ (k - 1)) k := by
  simp [rnd]

/-- The arithmetic shift is the floor of the quotient (40_numerics.md R217). -/
theorem asr_floor (v : Int) (i : Nat) : 2 ^ i * asr v i ≤ v ∧ v < 2 ^ i * (asr v i + 1) := by
  have hpos : (0 : Int) < 2 ^ i := by positivity
  have hasr : asr v i = v / 2 ^ i := by simp [asr]
  rw [hasr, mul_add, mul_one]
  exact ⟨Int.mul_ediv_self_le hpos.ne', Int.lt_mul_ediv_self_add hpos⟩

theorem clamp_of_gt {x hi : Int} (h : hi < x) (lo : Int) : clamp x lo hi = hi := if_pos h

theorem clamp_of_le {x hi : Int} (h : x ≤ hi) (lo : Int) : clamp x lo hi = max lo x := by
  rw [clamp, if_neg (by omega)]
  split <;> omega

/-- Both saturations are clamps with their range as the bounds. -/
theorem clamp_eq_max_min {lo hi : Int} (h : lo ≤ hi) (x : Int) : clamp x lo hi = max lo (min hi x) := by
  by_cases hx : hi < x
  · rw [clamp_of_gt hx]; omega
  · rw [clamp_of_le (by omega)]; omega

theorem sat32_eq_clamp (x : Int) : sat32 x = clamp x min32 max32 := rfl

theorem sat64_eq_clamp (x : Int) : sat64 x = clamp x min64 max64 := rfl

theorem clips32_iff_outside (x : Int) : clips32 x = true ↔ x < min32 ∨ max32 < x := by
  simp [clips32, or_comm]

theorem clips64_iff_outside (x : Int) : clips64 x = true ↔ x < min64 ∨ max64 < x := by
  simp [clips64, or_comm]

/-! ### Division -/

/-- `divt` is the library's quotient rounded toward zero (40_numerics.md R214). -/
theorem divt_eq_tdiv (n d : Int) : divt n d = n.tdiv d := by
  rw [← Int.sign_mul_natAbs (n.tdiv d), Int.sign_tdiv, Int.natAbs_tdiv, divt]
  split
  · next hsmall => simp [Nat.div_eq_of_lt hsmall]
  · rfl

/-- The remainder has the sign of the dividend, or is 0. -/
theorem mul_tmod_nonneg (n d : Int) : 0 ≤ n * n.tmod d := by
  rcases le_total 0 n with hn | hn
  · exact mul_nonneg hn (Int.tmod_nonneg d hn)
  · have hneg : 0 ≤ (-n).tmod d := Int.tmod_nonneg d (by omega)
    rw [Int.neg_tmod] at hneg
    exact mul_nonneg_of_nonpos_of_nonpos hn (by omega)

/-! ### Square root -/

/-- The digits still to find are below `2 ^ k`: when the root lies within them, the search ends at it. -/
theorem isqrtFrom_eq_sqrt {n : Nat} (k r : Nat) (hlow : r * r ≤ n) (hhigh : n < (r + 2 ^ k) * (r + 2 ^ k)) :
    isqrtFrom n k r = n.sqrt := by
  induction k generalizing r with
  | zero => exact Nat.eq_sqrt.2 ⟨hlow, hhigh⟩
  | succ k ih =>
    rw [isqrtFrom]
    split
    · next hdigit =>
      refine ih _ hdigit ?_
      rwa [add_assoc, ← two_mul, ← pow_succ']
    · next hdigit => exact ih _ hlow (not_le.1 hdigit)

theorem isqrt_eq_sqrt (n : Nat) : isqrt n = n.sqrt := by
  refine isqrtFrom_eq_sqrt _ 0 (Nat.zero_le n) ?_
  calc n < 2 ^ (n.log2 + 1) := Nat.lt_log2_self
    _ ≤ 2 ^ (n.log2 / 2 + 1 + (n.log2 / 2 + 1)) := Nat.pow_le_pow_right (by omega) (by omega)
    _ = (0 + 2 ^ (n.log2 / 2 + 1)) * (0 + 2 ^ (n.log2 / 2 + 1)) := by rw [zero_add, pow_add]

/-! ### Sine and cosine -/

/-- The iterate before rotation `i` (40_numerics.md R217); `cordic_eq_iterate` ties it to `cordic`. -/
def cordicIterate (residual : BitVec 30) : Nat → Cordic
  | 0 => ⟨cordicKinv, 0, (residual.toNat : Int)⟩
  | i + 1 => cordicStep i (cordicAtan.getD i 0) (cordicIterate residual i)

theorem cordicIterate_succ_of_nonneg {residual : BitVec 30} {i : Nat} (h : 0 ≤ (cordicIterate residual i).z) :
    cordicIterate residual (i + 1) =
      ⟨(cordicIterate residual i).x - (cordicIterate residual i).y >>> i,
        (cordicIterate residual i).y + (cordicIterate residual i).x >>> i,
        (cordicIterate residual i).z - cordicAtan.getD i 0⟩ := by
  rw [cordicIterate, cordicStep, if_pos h, asr_eq_shiftRight, asr_eq_shiftRight]

theorem cordicIterate_succ_of_neg {residual : BitVec 30} {i : Nat} (h : (cordicIterate residual i).z < 0) :
    cordicIterate residual (i + 1) =
      ⟨(cordicIterate residual i).x + (cordicIterate residual i).y >>> i,
        (cordicIterate residual i).y - (cordicIterate residual i).x >>> i,
        (cordicIterate residual i).z + cordicAtan.getD i 0⟩ := by
  rw [cordicIterate, cordicStep, if_neg (not_le.2 h), asr_eq_shiftRight, asr_eq_shiftRight]

/-- A run over a list of angles ends at the last of the iterates that the angles relate. -/
theorem cordicRun_of_step {f : Nat → Cordic} (angles : List Int) (j : Nat)
    (hstep : ∀ i < angles.length, f (j + i + 1) = cordicStep (j + i) (angles.getD i 0) (f (j + i))) :
    cordicRun angles j (f j) = f (j + angles.length) := by
  induction angles generalizing j with
  | nil => rfl
  | cons a rest ih =>
    have hfirst : f (j + 1) = cordicStep j a (f j) := hstep 0 (by simp)
    have hrest : ∀ i < rest.length,
        f (j + 1 + i + 1) = cordicStep (j + 1 + i) (rest.getD i 0) (f (j + 1 + i)) := by
      intro i hi
      have hnext := hstep (i + 1) (by simpa using hi)
      rwa [List.getD_cons_succ, ← add_assoc, add_right_comm j i 1] at hnext
    rw [cordicRun, ← hfirst, ih (j + 1) hrest, List.length_cons, add_assoc, add_comm 1]

theorem cordic_eq_iterate (residual : BitVec 30) : cordic residual = cordicIterate residual 24 := by
  have hrun := cordicRun_of_step (f := cordicIterate residual) cordicAtan 0 fun i _ => by
    rw [zero_add]; rfl
  exact hrun

theorem quadrant_eq (k : BitVec 2) (x y : Int) :
    quadrant k x y = if k.toNat = 0 then (x, y) else if k.toNat = 1 then (-y, x)
      else if k.toNat = 2 then (-x, -y) else (y, -x) := by
  unfold quadrant
  split <;> simp_all

/-- One quadrant on is a quarter turn. -/
theorem quadrant_add_one (k : BitVec 2) (x y : Int) :
    quadrant (k + 1) x y = (-(quadrant k x y).2, (quadrant k x y).1) := by
  have hk : k = 0 ∨ k = 1 ∨ k = 2 ∨ k = 3 := by revert k; decide
  obtain rfl | rfl | rfl | rfl := hk <;> simp [quadrant]

theorem toNat_residual (th : Word) : (th.extractLsb' 0 30).toNat = th.toNat % 2 ^ 30 := by simp

theorem toNat_quadrantBits (th : Word) : (th.extractLsb' 30 2).toNat = th.toNat / 2 ^ 30 := by
  have := th.isLt
  rw [BitVec.extractLsb'_toNat, Nat.shiftRight_eq_div_pow, Nat.mod_eq_of_lt (by omega)]

theorem residual_quarterTurn (th : Word) :
    (th + 0x40000000).extractLsb' 0 30 = th.extractLsb' 0 30 := by
  apply BitVec.eq_of_toNat_eq
  have hturn : (0x40000000 : Word).toNat = 2 ^ 30 := rfl
  rw [toNat_residual, toNat_residual, BitVec.toNat_add, hturn]
  omega

theorem quadrantBits_quarterTurn (th : Word) :
    (th + 0x40000000).extractLsb' 30 2 = th.extractLsb' 30 2 + 1 := by
  apply BitVec.eq_of_toNat_eq
  have hturn : (0x40000000 : Word).toNat = 2 ^ 30 := rfl
  have hone : (1 : BitVec 2).toNat = 1 := rfl
  rw [BitVec.toNat_add, toNat_quadrantBits, toNat_quadrantBits, BitVec.toNat_add, hturn, hone]
  omega

/-- `SINCOS` in its two steps: the 24 rotations of the residual angle, then the quadrant (40_numerics.md R217). -/
theorem sincos_eq_iterate (th : Word) :
    sincos th = quadrant (th.extractLsb' 30 2) (cordicIterate (th.extractLsb' 0 30) 24).x
      (cordicIterate (th.extractLsb' 0 30) 24).y := by
  rw [← cordic_eq_iterate]
  rfl

theorem sincos_quarterTurn (th : Word) : sincos (th + 0x40000000) = (-(sincos th).2, (sincos th).1) := by
  rw [sincos_eq_iterate, sincos_eq_iterate, residual_quarterTurn, quadrantBits_quarterTurn, quadrant_add_one]

/-! ### The obligations -/

/-- Settles O26: `rnd` is a floor, and both saturations are clamps at the ends of their range. -/
theorem roundingSaturationAndClamp : Obligations.RoundingSaturationAndClamp := by
  refine ⟨fun k x _ => ?_, fun x lo hi => ⟨fun h => clamp_of_gt h lo, fun h => clamp_of_le h lo, ?_⟩,
    fun x => ⟨?_, clips32_iff_outside x⟩, fun x => ⟨?_, clips64_iff_outside x⟩⟩
  · rw [rnd_eq_asr]
    exact ⟨asr_eq_shiftRight _ k, asr_floor _ k⟩
  · intro hlo hx
    rw [clamp_of_le hx, max_eq_left (by omega)]
  · exact (sat32_eq_clamp x).trans (clamp_eq_max_min (by decide) x)
  · exact (sat64_eq_clamp x).trans (clamp_eq_max_min (by decide) x)

/-- Settles O27: the remainder is the one of the library's truncating division. -/
theorem divisionTruncates : Obligations.DivisionTruncates := by
  intro n d hd
  refine ⟨n.tmod d, ?_, ?_, ?_⟩
  · rw [divt_eq_tdiv, mul_comm, Int.mul_tdiv_add_tmod]
  · rw [Int.natAbs_tmod]
    exact Nat.mod_lt _ (Int.natAbs_pos.2 hd)
  · exact mul_tmod_nonneg n d

/-- Settles O28: the digit search ends at the floor of the square root. -/
theorem squareRootIsTheFloor : Obligations.SquareRootIsTheFloor := by
  intro n
  rw [isqrt_eq_sqrt]
  exact ⟨Nat.sqrt_le' n, fun r => Nat.le_sqrt'.2⟩

/-- Settles O29: the iterates are those of the run, and a quarter turn moves on the quadrant alone. -/
theorem sincosIsTheRotationOfTheResidual : Obligations.SincosIsTheRotationOfTheResidual := by
  refine ⟨fun th => ?_, sincos_quarterTurn⟩
  refine ⟨fun i => (cordicIterate (th.extractLsb' 0 30) i).x, fun i => (cordicIterate (th.extractLsb' 0 30) i).y,
    fun i => (cordicIterate (th.extractLsb' 0 30) i).z, rfl, rfl, ?_, fun i _ => ⟨fun hz => ?_, fun hz => ?_⟩, ?_⟩
  · exact congrArg Nat.cast (toNat_residual th)
  · have hstep := cordicIterate_succ_of_nonneg hz
    exact ⟨congrArg Cordic.x hstep, congrArg Cordic.y hstep, congrArg Cordic.z hstep⟩
  · have hstep := cordicIterate_succ_of_neg hz
    exact ⟨congrArg Cordic.x hstep, congrArg Cordic.y hstep, congrArg Cordic.z hstep⟩
  · rw [sincos_eq_iterate, quadrant_eq, toNat_quadrantBits]

end Sys2Proof.Machine

/-! ## Proofs: the coordinate transforms (41_transform.md R260-R265)

What the four commands write, what their values depend on, and where they saturate. -/

namespace Sys2Proof.Machine

/-! ### Saturated results -/

theorem clips32_eq_decide (x : Int) : clips32 x = decide (sat32 x ≠ x) := by
  rw [Bool.eq_iff_iff, clips32_iff, decide_eq_true_iff]

/-- A register value fits its register (40_numerics.md R212). -/
theorem sat32_sv (w : Word) : sat32 (sv w) = sv w := sat32_of_range (sv_range w).1 (sv_range w).2

theorem sat32_of_not_clips {x : Int} (h : clips32 x = false) : sat32 x = x := by
  obtain ⟨hlow, hhigh⟩ := (clips32_eq_false x).1 h
  exact sat32_of_range hlow hhigh

theorem clips32_sv (w : Word) : clips32 (sv w) = false := (clips32_eq_false _).2 (sv_range w)

/-- Saturation does not lead away from a register value. -/
theorem natAbs_sat32_sub_le {x : Int} {w : Word} {n : Nat} (h : (x - sv w).natAbs ≤ n) :
    (sat32 x - sv w).natAbs ≤ n := by
  have hw := sv_range w
  unfold sat32
  split <;> [skip; split] <;> omega

theorem satWord_sv (w : Word) : satWord (sv w) = w := by rw [satWord, sat32_sv, toWord_sv]

theorem State.readX_storeSat2_fst (s : State) (rd : RegNo) (v0 v1 : Int) :
    (s.storeSat2 rd v0 v1).readX rd = satWord v0 := by
  rw [State.storeSat2, State.readX_writeX2, if_neg (span_distinct rd).1.symm, if_pos rfl]

theorem State.readX_storeSat2_snd (s : State) (rd : RegNo) (v0 v1 : Int) :
    (s.storeSat2 rd v0 v1).readX (rd + 1) = satWord v1 := by
  rw [State.storeSat2, State.readX_writeX2, if_pos rfl]

theorem State.readX_storeSat3 (s : State) (rd : RegNo) (v0 v1 v2 : Int) :
    (s.storeSat3 rd v0 v1 v2).readX rd = satWord v0 ∧
    (s.storeSat3 rd v0 v1 v2).readX (rd + 1) = satWord v1 ∧
    (s.storeSat3 rd v0 v1 v2).readX (rd + 2) = satWord v2 := by
  obtain ⟨h10, h20, h21⟩ := span_distinct rd
  refine ⟨?_, ?_, ?_⟩ <;> rw [State.storeSat3, State.readX_writeX3]
  · rw [if_neg h20.symm, if_neg h10.symm, if_pos rfl]
  · rw [if_neg h21.symm, if_pos rfl]
  · rw [if_pos rfl]

theorem State.sx_storeSat3 (s : State) (rd : RegNo) (v0 v1 v2 : Int) :
    (s.storeSat3 rd v0 v1 v2).sx rd = sat32 v0 ∧
    (s.storeSat3 rd v0 v1 v2).sx (rd + 1) = sat32 v1 ∧
    (s.storeSat3 rd v0 v1 v2).sx (rd + 2) = sat32 v2 := by
  obtain ⟨h0, h1, h2⟩ := s.readX_storeSat3 rd v0 v1 v2
  simp only [State.sx, h0, h1, h2, sv_satWord, and_self]

theorem State.storeSat2_satf (s : State) (rd : RegNo) (v0 v1 : Int) :
    (s.storeSat2 rd v0 v1).satf = (s.satf || (clips32 v0 || clips32 v1)) := rfl

theorem State.storeSat3_satf (s : State) (rd : RegNo) (v0 v1 v2 : Int) :
    (s.storeSat3 rd v0 v1 v2).satf = (s.satf || (clips32 v0 || clips32 v1 || clips32 v2)) := rfl

/-- One more write, to a register not written yet, is one more entry of the list of writes. -/
theorem xAfter.writeX {s t : State} {writes : List (RegNo × Word)} (h : xAfter s t writes) {r : RegNo}
    (hr : writes.lookup r = none) (v : Word) : xAfter s (t.writeX r v) (writes ++ [(r, v)]) := by
  intro q
  rw [State.readX_writeX, List.lookup_append]
  by_cases hq : q = r
  · simp [hq, hr]
  · have hqr : (q == r) = false := beq_false_of_ne hq
    simp [hq, List.lookup, hqr, h q]

theorem xAfter_writeX2 (s : State) (rd : RegNo) (v0 v1 : Word) :
    xAfter s (s.writeX2 rd v0 v1) [(rd, v0), (rd + 1, v1)] := by
  refine (xAfter_writeX s rd v0).writeX ?_ v1
  rw [List.lookup, beq_false_of_ne (span_distinct rd).1]
  rfl

theorem xAfter_writeX3 (s : State) (rd : RegNo) (v0 v1 v2 : Word) :
    xAfter s (s.writeX3 rd v0 v1 v2) [(rd, v0), (rd + 1, v1), (rd + 2, v2)] := by
  obtain ⟨-, h20, h21⟩ := span_distinct rd
  refine (xAfter_writeX2 s rd v0 v1).writeX ?_ v2
  rw [List.lookup, beq_false_of_ne h20, List.lookup, beq_false_of_ne h21]
  rfl

/-- What storing two saturated results does: the writes, `SATF`, and the frame (41_transform.md R260). -/
theorem State.storeSat2_spec (s : State) (rd : RegNo) (v0 v1 : Int) :
    xAfter s (s.storeSat2 rd v0 v1) [(rd, toWord (sat32 v0)), (rd + 1, toWord (sat32 v1))] ∧
    (s.storeSat2 rd v0 v1).satf = (s.satf || decide (sat32 v0 ≠ v0) || decide (sat32 v1 ≠ v1)) ∧
    s.storeSat2 rd v0 v1 =
      { s with x := (s.storeSat2 rd v0 v1).x, satf := (s.storeSat2 rd v0 v1).satf } := by
  refine ⟨xAfter_writeX2 (s.noteSat _) rd _ _, ?_, rfl⟩
  rw [State.storeSat2_satf, clips32_eq_decide, clips32_eq_decide, Bool.or_assoc]

/-- Storing a register value and two results: the register value never saturates (41_transform.md R262). -/
theorem State.storeSat3_sv_spec (s : State) (rd : RegNo) (w : Word) (v1 v2 : Int) :
    xAfter s (s.storeSat3 rd (sv w) v1 v2)
      [(rd, w), (rd + 1, toWord (sat32 v1)), (rd + 2, toWord (sat32 v2))] ∧
    (s.storeSat3 rd (sv w) v1 v2).satf =
      (s.satf || decide (sat32 v1 ≠ v1) || decide (sat32 v2 ≠ v2)) ∧
    s.storeSat3 rd (sv w) v1 v2 =
      { s with x := (s.storeSat3 rd (sv w) v1 v2).x, satf := (s.storeSat3 rd (sv w) v1 v2).satf } := by
  refine ⟨?_, ?_, rfl⟩
  · have hwrites := xAfter_writeX3 (s.noteSat (clips32 (sv w) || clips32 v1 || clips32 v2)) rd
      (satWord (sv w)) (satWord v1) (satWord v2)
    rw [satWord_sv] at hwrites
    rw [State.storeSat3, satWord_sv]
    exact hwrites
  · rw [State.storeSat3_satf, clips32_sv, clips32_eq_decide, clips32_eq_decide, Bool.false_or, Bool.or_assoc]

/-! ### The commands with a legal destination -/

/-- A command whose span of destinations ends at or below `X15` is carried out (30_encoding.md R173). -/
theorem whenLegal_spanFits {rd : RegNo} {n : Nat} (hrd : rd.toNat + n ≤ 16) (s d : State) :
    whenLegal (spanFits rd n) s d = .next d := by
  have hfits : spanFits rd n = true := decide_eq_true hrd
  rw [whenLegal, if_pos hfits]

theorem exec_clarke_legal {rd : RegNo} (hrd : rd.toNat ≤ 14) (r1 r2 r3 : RegNo) (s : State) :
    exec (.clarke rd r1 r2 r3) s = .next
      (s.storeSat2 rd (clarkeAlpha (s.sx r1) (s.sx r2) (s.sx r3)) (clarkeBeta (s.sx r2) (s.sx r3))) :=
  whenLegal_spanFits (by omega) s _

theorem exec_iclarke_legal {rd : RegNo} (hrd : rd.toNat ≤ 13) (r1 r2 : RegNo) (s : State) :
    exec (.iclarke rd r1 r2) s = .next
      (s.storeSat3 rd (s.sx r1) (iclarkeB (s.sx r1) (s.sx r2)) (iclarkeC (s.sx r1) (s.sx r2))) :=
  whenLegal_spanFits (by omega) s _

theorem exec_park_legal {rd : RegNo} (hrd : rd.toNat ≤ 14) (r1 r2 r3 : RegNo) (s : State) :
    exec (.park rd r1 r2 r3) s = .next
      (s.storeSat2 rd (parkD (s.sx r1) (s.sx r2) (s.readX r3)) (parkQ (s.sx r1) (s.sx r2) (s.readX r3))) :=
  whenLegal_spanFits (by omega) s _

theorem exec_ipark_legal {rd : RegNo} (hrd : rd.toNat ≤ 14) (r1 r2 r3 : RegNo) (s : State) :
    exec (.ipark rd r1 r2 r3) s = .next
      (s.storeSat2 rd (iparkAlpha (s.sx r1) (s.sx r2) (s.readX r3))
        (iparkBeta (s.sx r1) (s.sx r2) (s.readX r3))) :=
  whenLegal_spanFits (by omega) s _

/-! ### The rotation of the opposite vector -/

/-- `-2^31` is the one word whose negation is not in a register (00_scope.md R10). -/
theorem sv_neg {w : Word} (hw : w ≠ 0x80000000) : sv (-w) = -sv w :=
  BitVec.toInt_neg_of_ne_intMin hw

/-- Half a turn is two quarter turns. -/
theorem sincos_halfTurn (th : Word) : sincos (th + 0x80000000) = (-(sincos th).1, -(sincos th).2) := by
  have hturn : th + 0x80000000 = th + 0x40000000 + 0x40000000 := by rw [add_assoc]; rfl
  rw [hturn, sincos_quarterTurn, sincos_quarterTurn]

theorem parkD_opposite (al be : Int) (th : Word) : parkD (-al) (-be) (th + 0x80000000) = parkD al be th := by
  rw [parkD, parkD, sincos_halfTurn, neg_mul_neg, neg_mul_neg]

theorem parkQ_opposite (al be : Int) (th : Word) : parkQ (-al) (-be) (th + 0x80000000) = parkQ al be th := by
  rw [parkQ, parkQ, sincos_halfTurn, neg_mul_neg, neg_mul_neg]

theorem iparkAlpha_opposite (d q : Int) (th : Word) :
    iparkAlpha (-d) (-q) (th + 0x80000000) = iparkAlpha d q th := by
  rw [iparkAlpha, iparkAlpha, sincos_halfTurn, neg_mul_neg, neg_mul_neg]

theorem iparkBeta_opposite (d q : Int) (th : Word) :
    iparkBeta (-d) (-q) (th + 0x80000000) = iparkBeta d q th := by
  rw [iparkBeta, iparkBeta, sincos_halfTurn, neg_mul_neg, neg_mul_neg]

/-! ### What the transforms depend on -/

theorem State.readX_congr {s s' : State} (hx : s.x = s'.x) (r : RegNo) : s.readX r = s'.readX r := by
  rw [State.readX, State.readX]
  simp only [hx]

theorem State.sx_congr {s s' : State} (hx : s.x = s'.x) (r : RegNo) : s.sx r = s'.sx r :=
  congrArg sv (State.readX_congr hx r)

/-- The transitions `s` to `t` and `s'` to `t'` end with the same data registers and or the same saturation
into `SATF`. -/
def SameEffect (s s' t t' : State) : Prop :=
  t.x = t'.x ∧ ∃ clipped : Bool, t.satf = (s.satf || clipped) ∧ t'.satf = (s'.satf || clipped)

theorem SameEffect.storeSat2 {s s' : State} (hx : s.x = s'.x) (rd : RegNo) (v0 v1 : Int) :
    SameEffect s s' (s.storeSat2 rd v0 v1) (s'.storeSat2 rd v0 v1) := by
  refine ⟨?_, _, rfl, rfl⟩
  simp [State.storeSat2, State.writeX2, hx]

theorem SameEffect.storeSat3 {s s' : State} (hx : s.x = s'.x) (rd : RegNo) (v0 v1 v2 : Int) :
    SameEffect s s' (s.storeSat3 rd v0 v1 v2) (s'.storeSat3 rd v0 v1 v2) := by
  refine ⟨?_, _, rfl, rfl⟩
  simp [State.storeSat3, State.writeX3, hx]

/-- An illegal command has the same effect on both too: it saturates nothing (60_exceptions.md R431). -/
theorem SameEffect.of_whenLegal {ok : Bool} {s s' d d' t t' : State} (hx : s.x = s'.x)
    (hd : SameEffect s s' d d') (h : whenLegal ok s d = .next t) (h' : whenLegal ok s' d' = .next t') :
    SameEffect s s' t t' := by
  cases ok with
  | true =>
    cases h
    cases h'
    exact hd
  | false =>
    cases h
    cases h'
    exact ⟨hx, false, (Bool.or_false _).symm, (Bool.or_false _).symm⟩

/-! ### Ranges -/

/-- `rnd_30` as a floor (40_numerics.md R211). -/
theorem rnd30_floor (x : Int) :
    1073741824 * rnd 30 x ≤ x + 536870912 ∧ x + 536870912 < 1073741824 * (rnd 30 x + 1) := by
  rw [rnd_eq_asr]
  exact asr_floor _ 30

theorem clarkeAlpha_floor (a b c : Int) :
    1073741824 * clarkeAlpha a b c ≤ (2 * a - b - c) * 357913941 + 536870912 ∧
    (2 * a - b - c) * 357913941 + 536870912 < 1073741824 * (clarkeAlpha a b c + 1) := rnd30_floor _

theorem clarkeBeta_floor (b c : Int) :
    1073741824 * clarkeBeta b c ≤ (b - c) * 619925131 + 536870912 ∧
    (b - c) * 619925131 + 536870912 < 1073741824 * (clarkeBeta b c + 1) := rnd30_floor _

theorem iclarkeB_floor (al be : Int) :
    1073741824 * iclarkeB al be ≤ -al * 536870912 + be * 929887697 + 536870912 ∧
    -al * 536870912 + be * 929887697 + 536870912 < 1073741824 * (iclarkeB al be + 1) := rnd30_floor _

theorem iclarkeC_floor (al be : Int) :
    1073741824 * iclarkeC al be ≤ -al * 536870912 - be * 929887697 + 536870912 ∧
    -al * 536870912 - be * 929887697 + 536870912 < 1073741824 * (iclarkeC al be + 1) := rnd30_floor _

/-- The gains of `clarke` are at most `4/3` and `2/√3` (41_transform.md R265 item 5). -/
theorem clips32_clarke {a b c : Int} (ha : a.natAbs ≤ 23988 * 65536) (hb : b.natAbs ≤ 23988 * 65536)
    (hc : c.natAbs ≤ 23988 * 65536) : clips32 (clarkeAlpha a b c) = false ∧ clips32 (clarkeBeta b c) = false := by
  have halpha := clarkeAlpha_floor a b c
  have hbeta := clarkeBeta_floor b c
  rw [clips32_eq_false, clips32_eq_false, min32, max32]
  omega

/-- The gain of `iclarke` is at most `1/2 + √3/2` (41_transform.md R265 item 5). -/
theorem clips32_iclarke {al be : Int} (hal : al.natAbs ≤ 23987 * 65536) (hbe : be.natAbs ≤ 23987 * 65536) :
    clips32 (iclarkeB al be) = false ∧ clips32 (iclarkeC al be) = false := by
  have hb := iclarkeB_floor al be
  have hc := iclarkeC_floor al be
  rw [clips32_eq_false, clips32_eq_false, min32, max32]
  omega

/-! ### `clarke` after `iclarke` -/

/-- Before rounding `b + c` is `-α`; half up, each of the two goes up by at most a half (41_transform.md R262). -/
theorem iclarkeB_add_iclarkeC (al be : Int) :
    iclarkeB al be + iclarkeC al be = -al ∨ iclarkeB al be + iclarkeC al be = -al + 1 := by
  have hb := iclarkeB_floor al be
  have hc := iclarkeC_floor al be
  omega

/-- `K13` is a third of `2^30 - 1`, so `α` drifts by `-α / 2^30`, less than 1 in this range. -/
theorem clarkeAlpha_iclarke {al : Int} (hal : al.natAbs ≤ 16000 * 65536) (be : Int) :
    (clarkeAlpha al (iclarkeB al be) (iclarkeC al be) - al).natAbs ≤ 1 := by
  have hsum := iclarkeB_add_iclarkeC al be
  have halpha := clarkeAlpha_floor al (iclarkeB al be) (iclarkeC al be)
  omega

/-- `2 · KS32 · KIS3` is `2^60` to within one part in `2^30`, and the roundings of `b`, `c` and `β` add up to
less than 2. -/
theorem clarkeBeta_iclarke {be : Int} (hbe : be.natAbs ≤ 16000 * 65536) (al : Int) :
    (clarkeBeta (iclarkeB al be) (iclarkeC al be) - be).natAbs ≤ 1 := by
  have hb := iclarkeB_floor al be
  have hc := iclarkeC_floor al be
  have hbeta := clarkeBeta_floor (iclarkeB al be) (iclarkeC al be)
  omega

/-- What `clarke` of the three results of `iclarke` leaves, with the saturations between. -/
theorem readX_clarke_iclarke {rd rd' r1 r2 : RegNo} {s u t : State} (hrd : rd.toNat ≤ 13) (hrd' : rd'.toNat ≤ 14)
    (hu : exec (.iclarke rd r1 r2) s = .next u) (ht : exec (.clarke rd' rd (rd + 1) (rd + 2)) u = .next t) :
    sv (t.readX rd') = sat32 (clarkeAlpha (s.sx r1) (sat32 (iclarkeB (s.sx r1) (s.sx r2)))
      (sat32 (iclarkeC (s.sx r1) (s.sx r2)))) ∧
    sv (t.readX (rd' + 1)) = sat32 (clarkeBeta (sat32 (iclarkeB (s.sx r1) (s.sx r2)))
      (sat32 (iclarkeC (s.sx r1) (s.sx r2)))) := by
  rw [exec_iclarke_legal hrd] at hu
  rw [exec_clarke_legal hrd'] at ht
  cases hu
  cases ht
  obtain ⟨ha, hb, hc⟩ := s.sx_storeSat3 rd (s.sx r1) (iclarkeB (s.sx r1) (s.sx r2)) (iclarkeC (s.sx r1) (s.sx r2))
  have hal : sat32 (s.sx r1) = s.sx r1 := sat32_sv _
  rw [State.readX_storeSat2_fst, State.readX_storeSat2_snd, sv_satWord, sv_satWord, ha, hb, hc, hal]
  exact ⟨rfl, rfl⟩

/-! ### The obligations -/

/-- Settles O34: both factors of every product change their sign. -/
theorem rotationOfTheOppositeVector : Obligations.RotationOfTheOppositeVector := by
  intro rd a b th s i hrd hab hat hbt ha hb hi s'
  have hreada : s'.readX a = -s.readX a := by simp [s', State.readX_writeX, hab, hat]
  have hreadb : s'.readX b = -s.readX b := by simp [s', State.readX_writeX, hbt]
  have hsa : s'.sx a = -s.sx a := by rw [State.sx, hreada, sv_neg ha]; rfl
  have hsb : s'.sx b = -s.sx b := by rw [State.sx, hreadb, sv_neg hb]; rfl
  have hth : s'.readX th = s.readX th + 0x80000000 := State.readX_writeX_self _ _ _
  obtain rfl | rfl := hi
  · refine ⟨_, _, exec_park_legal hrd a b th s, exec_park_legal hrd a b th s', ?_⟩
    rw [hsa, hsb, hth, parkD_opposite, parkQ_opposite]
    simp only [State.readX_storeSat2_fst, State.readX_storeSat2_snd, true_and]
    rfl
  · refine ⟨_, _, exec_ipark_legal hrd a b th s, exec_ipark_legal hrd a b th s', ?_⟩
    rw [hsa, hsb, hth, iparkAlpha_opposite, iparkBeta_opposite]
    simp only [State.readX_storeSat2_fst, State.readX_storeSat2_snd, true_and]
    rfl

/-- Settles O35: the values that are stored are functions of the data registers. -/
theorem transformsReadOnlyDataRegisters : Obligations.TransformsReadOnlyDataRegisters := by
  intro rd r1 r2 r3 i s s' t t' hi hx h h'
  have hread := State.readX_congr hx
  have hsx := State.sx_congr hx
  obtain rfl | rfl | rfl | rfl := hi
  · simp only [exec, execClarke, hsx] at h h'
    exact SameEffect.of_whenLegal hx (.storeSat2 hx rd _ _) h h'
  · simp only [exec, execIclarke, hsx] at h h'
    exact SameEffect.of_whenLegal hx (.storeSat3 hx rd _ _ _) h h'
  · simp only [exec, execPark, hsx, hread] at h h'
    exact SameEffect.of_whenLegal hx (.storeSat2 hx rd _ _) h h'
  · simp only [exec, execIpark, hsx, hread] at h h'
    exact SameEffect.of_whenLegal hx (.storeSat2 hx rd _ _) h h'

/-- Settles O36: in this range `iclarke` does not saturate, and the roundings add up to 1 LSB at most. -/
theorem clarkeOfInverseClarkeIsCloseInRange : Obligations.ClarkeOfInverseClarkeIsCloseInRange := by
  intro r1 r2 rd rd' s hrd hrd' hal hbe
  refine ⟨_, _, exec_iclarke_legal hrd r1 r2 s, exec_clarke_legal hrd' rd (rd + 1) (rd + 2) _, ?_⟩
  obtain ⟨hreadAlpha, hreadBeta⟩ := readX_clarke_iclarke hrd hrd' (exec_iclarke_legal hrd r1 r2 s)
    (exec_clarke_legal hrd' rd (rd + 1) (rd + 2) _)
  obtain ⟨hb, hc⟩ := clips32_iclarke (al := s.sx r1) (be := s.sx r2) (hal.trans (by omega)) (hbe.trans (by omega))
  rw [hreadAlpha, hreadBeta, sat32_of_not_clips hb, sat32_of_not_clips hc]
  have halpha := clarkeAlpha_iclarke hal (s.sx r2)
  have hbeta := clarkeBeta_iclarke hbe (s.sx r1)
  exact ⟨natAbs_sat32_sub_le halpha, natAbs_sat32_sub_le hbeta⟩

/-- Refutes O37: at `α = -2^31`, `β = 0` the drift of `α` is 2, with no saturation (log entry 9). -/
theorem not_clarkeOfInverseClarkeIsCloseEverywhere : ¬ Obligations.ClarkeOfInverseClarkeIsCloseEverywhere := by
  intro h
  obtain ⟨u, t, hu, ht, hclose, -⟩ := h 0 1 2 5 (State.reset.writeX 0 0x80000000) (by decide) (by decide)
  rw [(readX_clarke_iclarke (by decide) (by decide) hu ht).1] at hclose
  exact absurd hclose (by decide)

/-- Settles O38: at these bounds no result reaches full scale, and an illegal command leaves `SATF` alone too. -/
theorem clarkePairDoesNotSaturateInRange : Obligations.ClarkePairDoesNotSaturateInRange := by
  constructor
  · intro rd r1 r2 r3 s t h ha hb hc
    obtain ⟨halpha, hbeta⟩ := clips32_clarke ha hb hc
    obtain ⟨-, rfl⟩ | ⟨-, rfl⟩ := (whenLegal_next _ _ _ _).1 h
    · simp [State.storeSat2_satf, State.sx, halpha, hbeta]
    · exact State.raise_satf s .ill
  · intro rd r1 r2 s t h hal hbe
    obtain ⟨hb, hc⟩ := clips32_iclarke hal hbe
    obtain ⟨-, rfl⟩ | ⟨-, rfl⟩ := (whenLegal_next _ _ _ _).1 h
    · simp [State.storeSat3_satf, State.sx, hb, hc, clips32_sv]
    · exact State.raise_satf s .ill

/-- Refutes O39: with both components at `-23988` the result `c` is above `2^31 - 1` (log entry 8). -/
theorem not_inverseClarkeDoesNotSaturateAt23988 : ¬ Obligations.InverseClarkeDoesNotSaturateAt23988 := by
  intro h
  have hsatf := h 2 0 1 ((State.reset.writeX 0 0xA24C0000).writeX 1 0xA24C0000) _
    (exec_iclarke_legal (by decide) 0 1 _) (by decide) (by decide)
  exact absurd hsatf (by decide)

/-- Settles O30: two saturated results. -/
theorem clarkeResult : Obligations.ClarkeResult := fun rd r1 r2 r3 s hrd =>
  ⟨_, exec_clarke_legal hrd r1 r2 r3 s, s.storeSat2_spec rd _ _⟩

/-- Settles O31: `α` goes out as it came in, beside two saturated results. -/
theorem inverseClarkeResult : Obligations.InverseClarkeResult := fun rd r1 r2 s hrd =>
  ⟨_, exec_iclarke_legal hrd r1 r2 s, s.storeSat3_sv_spec rd (s.readX r1) _ _⟩

/-- Settles O32: two saturated results. -/
theorem parkResult : Obligations.ParkResult := fun rd r1 r2 r3 s hrd =>
  ⟨_, exec_park_legal hrd r1 r2 r3 s, s.storeSat2_spec rd _ _⟩

/-- Settles O33: two saturated results. -/
theorem inverseParkResult : Obligations.InverseParkResult := fun rd r1 r2 r3 s hrd =>
  ⟨_, exec_ipark_legal hrd r1 r2 r3 s, s.storeSat2_spec rd _ _⟩

end Sys2Proof.Machine

/-! ## Proofs: the PI regulator (42_pi.md R290-R293)

One update in closed form, where it stores its result, and what its output and integrator keep to. -/

namespace Sys2Proof.Machine

/-! ### The command on an existing instance -/

/-- A command whose `INST` names a PI instance is carried out on it (30_encoding.md R174). -/
theorem onPi_instance {k : InstNo} {i : Fin 4} (hk : k.toNat = i.val) (s : State) (f : Fin 4 → State) :
    onPi k s f = .next (f i) := (onPi_next k s _ f).2 (.inl ⟨i, hk, rfl⟩)

/-- Stores what one update of `PI[i]` answers: its saturation, its registers, and its output in `X[rd]`
(42_pi.md R291). -/
def State.storePiUpdate (s : State) (rd : RegNo) (i : Fin 4) (r : PiUnit × Bool) : State :=
  ((s.noteSat r.2).setPi i r.1).writeX rd r.1.out

theorem exec_piUpd_instance {k : InstNo} {i : Fin 4} (hk : k.toNat = i.val) (rd r1 r2 : RegNo) (s : State) :
    exec (.piUpd rd r1 r2 k) s = .next
      (s.storePiUpdate rd i (piUpdate s.pi[i] (uv s.ts) (s.sx r1) (s.sx r2))) :=
  onPi_instance hk s _

theorem exec_piRst_instance {k : InstNo} {i : Fin 4} (hk : k.toNat = i.val) (s : State) :
    exec (.piRst k) s = .next (s.setPi i { s.pi[i] with integ := 0, perr := 0, out := 0, sat := false }) :=
  onPi_instance hk s _

theorem State.setPi_get_self (s : State) (i : Fin 4) (p : PiUnit) : (s.setPi i p).pi[i] = p := by
  rw [State.setPi_get, if_pos rfl]

theorem State.setPi_get_of_ne (s : State) {i m : Fin 4} (hm : m ≠ i) (p : PiUnit) :
    (s.setPi i p).pi[m] = s.pi[m] := by
  rw [State.setPi_get, if_neg hm]

@[simp] theorem State.storePiUpdate_pi_self (s : State) (rd : RegNo) (i : Fin 4) (r : PiUnit × Bool) :
    (s.storePiUpdate rd i r).pi[i] = r.1 := (s.noteSat r.2).setPi_get_self i r.1

theorem State.storePiUpdate_pi_of_ne (s : State) (rd : RegNo) {i m : Fin 4} (hm : m ≠ i) (r : PiUnit × Bool) :
    (s.storePiUpdate rd i r).pi[m] = s.pi[m] := (s.noteSat r.2).setPi_get_of_ne hm r.1

@[simp] theorem State.readX_storePiUpdate_self (s : State) (rd : RegNo) (i : Fin 4) (r : PiUnit × Bool) :
    (s.storePiUpdate rd i r).readX rd = r.1.out := State.readX_writeX_self _ rd _

@[simp] theorem State.storePiUpdate_satf (s : State) (rd : RegNo) (i : Fin 4) (r : PiUnit × Bool) :
    (s.storePiUpdate rd i r).satf = (s.satf || r.2) := rfl

theorem xAfter_storePiUpdate (s : State) (rd : RegNo) (i : Fin 4) (r : PiUnit × Bool) :
    xAfter s (s.storePiUpdate rd i r) [(rd, r.1.out)] :=
  xAfter_writeX ((s.noteSat r.2).setPi i r.1) rd r.1.out

theorem State.storePiUpdate_frame (s : State) (rd : RegNo) (i : Fin 4) (r : PiUnit × Bool) :
    s.storePiUpdate rd i r =
      { s with pi := (s.storePiUpdate rd i r).pi, x := (s.storePiUpdate rd i r).x,
               satf := (s.storePiUpdate rd i r).satf } := rfl

/-! ### One update in closed form -/

/-- The tentative output `Ut` (42_pi.md R291). -/
def piTentative (p : PiUnit) (t e : Int) : Int := piProp p e + piInteg p t e

/-- The upper bound clamps the tentative output. -/
def piHigh (p : PiUnit) (ut : Int) : Bool := decide (ut > sv p.umax)

/-- The lower bound clamps it; the upper bound is tested first. -/
def piLow (p : PiUnit) (ut : Int) : Bool := !piHigh p ut && decide (ut < sv p.umin)

/-- The integrator advances: always within the bounds, at a bound only if the error unwinds it. -/
def piAdvances (p : PiUnit) (ut e : Int) : Bool :=
  if piHigh p ut then decide (e < 0) else if piLow p ut then decide (e > 0) else true

/-- The output `u`. -/
def piOutput (p : PiUnit) (ut : Int) : Int :=
  if piHigh p ut then sv p.umax else if piLow p ut then sv p.umin else ut

/-- The three paths of an update (42_pi.md R291). -/
theorem piPath_cases (p : PiUnit) (ut : Int) :
    (sv p.umax < ut ∧ piHigh p ut = true) ∨
    (ut ≤ sv p.umax ∧ ut < sv p.umin ∧ piHigh p ut = false ∧ piLow p ut = true) ∨
    (ut ≤ sv p.umax ∧ sv p.umin ≤ ut ∧ piHigh p ut = false ∧ piLow p ut = false) := by
  unfold piLow piHigh
  rcases lt_or_ge (sv p.umax) ut with hhigh | hhigh
  · exact .inl ⟨hhigh, decide_eq_true hhigh⟩
  · have hnot : decide (ut > sv p.umax) = false := decide_eq_false (not_lt.2 hhigh)
    rw [hnot, Bool.not_false, Bool.true_and, decide_eq_true_iff, decide_eq_false_iff_not, not_lt]
    rcases lt_or_ge ut (sv p.umin) with hlow | hlow
    · exact .inr (.inl ⟨hhigh, hlow, rfl, hlow⟩)
    · exact .inr (.inr ⟨hhigh, hlow, rfl, hlow⟩)

/-- The paths of one update as one: what is stored, and a `sat32` of a held integrator is not evaluated
(42_pi.md R291). -/
theorem piUpdate_eq (p : PiUnit) (t ref fb : Int) :
    piUpdate p t ref fb =
      let e := sat32 (ref - fb)
      let ut := piTentative p t e
      (piStore p e (piInteg p t e) (piOutput p ut) (piHigh p ut || piLow p ut) (piAdvances p ut e),
        clips32 (ref - fb) || (piAdvances p ut e && clips32 (piInteg p t e))) := by
  unfold piUpdate piAdvances piOutput
  dsimp only
  rw [← piTentative]
  obtain ⟨hgt, hhigh⟩ | ⟨hle, hlt, hhigh, hlow⟩ | ⟨hle, hge, hhigh, hlow⟩ :=
    piPath_cases p (piTentative p t (sat32 (ref - fb)))
  · simp [hgt, hhigh]
  · simp [not_lt.2 hle, hlt, hhigh, hlow]
  · simp [not_lt.2 hle, not_lt.2 hge, hhigh, hlow]

/-! ### The output and the integrator -/

/-- The output is the clamped tentative output (42_pi.md R293; 40_numerics.md R221). -/
theorem piOutput_eq_clamp (p : PiUnit) (ut : Int) : piOutput p ut = clamp ut (sv p.umin) (sv p.umax) := by
  unfold piOutput clamp
  obtain ⟨hgt, hhigh⟩ | ⟨hle, hlt, hhigh, hlow⟩ | ⟨hle, hge, hhigh, hlow⟩ := piPath_cases p ut
  · simp [hgt, hhigh]
  · simp [not_lt.2 hle, hlt, hhigh, hlow]
  · simp [not_lt.2 hle, not_lt.2 hge, hhigh, hlow]

/-- The output fits a register whatever the bounds: it is one of them or lies between them (42_pi.md R291). -/
theorem sv_toWord_piOutput (p : PiUnit) (ut : Int) : sv (toWord (piOutput p ut)) = piOutput p ut := by
  have hmax := sv_range p.umax
  have hmin := sv_range p.umin
  unfold piOutput
  obtain ⟨-, hhigh⟩ | ⟨-, -, hhigh, hlow⟩ | ⟨hle, hge, hhigh, hlow⟩ := piPath_cases p ut
  · simp [hhigh]
  · simp [hhigh, hlow]
  · simpa [hhigh, hlow] using sv_toWord ut (hmin.1.trans hge) (hle.trans hmax.2)

theorem piOutput_mem_bounds {p : PiUnit} (h : sv p.umin ≤ sv p.umax) (ut : Int) :
    sv p.umin ≤ piOutput p ut ∧ piOutput p ut ≤ sv p.umax := by
  rw [piOutput_eq_clamp]
  exact clamp_mem _ _ _ h

/-- At the upper bound the update holds the integrator unless the error is negative. -/
theorem piUpdate_high {p : PiUnit} {t ref fb : Int}
    (h : sv p.umax < piTentative p t (sat32 (ref - fb))) :
    (piUpdate p t ref fb).1.sat = true ∧ (piUpdate p t ref fb).1.out = p.umax ∧
      (0 ≤ sat32 (ref - fb) → (piUpdate p t ref fb).1.integ = p.integ) := by
  have hhigh : piHigh p (piTentative p t (sat32 (ref - fb))) = true := decide_eq_true h
  simp only [piUpdate_eq, piStore, piOutput, piAdvances, hhigh, if_true, Bool.true_or, toWord_sv, true_and]
  intro he
  rw [decide_eq_false (not_lt.2 he), if_neg Bool.false_ne_true]

/-- At the lower bound the update holds the integrator unless the error is positive. -/
theorem piUpdate_low {p : PiUnit} {t ref fb : Int} (hle : piTentative p t (sat32 (ref - fb)) ≤ sv p.umax)
    (h : piTentative p t (sat32 (ref - fb)) < sv p.umin) :
    (piUpdate p t ref fb).1.sat = true ∧ (piUpdate p t ref fb).1.out = p.umin ∧
      (sat32 (ref - fb) ≤ 0 → (piUpdate p t ref fb).1.integ = p.integ) := by
  have hhigh : piHigh p (piTentative p t (sat32 (ref - fb))) = false := decide_eq_false (not_lt.2 hle)
  have hlow : piLow p (piTentative p t (sat32 (ref - fb))) = true := by simp [piLow, hhigh, h]
  simp only [piUpdate_eq, piStore, piOutput, piAdvances, hhigh, hlow, if_true, Bool.false_eq_true, if_false,
    Bool.or_true, toWord_sv, true_and]
  intro he
  rw [decide_eq_false (not_lt.2 he), if_neg Bool.false_ne_true]

theorem piUpdate_out (p : PiUnit) (t ref fb : Int) :
    (piUpdate p t ref fb).1.out = toWord (piOutput p (piTentative p t (sat32 (ref - fb)))) := by
  rw [piUpdate_eq]
  rfl

/-! ### The obligations -/

/-- Settles O41: the command stores the one instance and nothing else. -/
theorem piResetResult : Obligations.PiResetResult := fun _k i s hk =>
  ⟨_, exec_piRst_instance hk s, s.setPi_get_self i _, fun _m hm => s.setPi_get_of_ne hm _, rfl⟩

/-- Settles O40, by the closed form of one update. -/
theorem piUpdateResult : Obligations.PiUpdateResult := by
  intro rd r1 r2 k i s hk p diff e it ut high low u advance
  have hupdate : piUpdate p (uv s.ts) (s.sx r1) (s.sx r2) =
      (piStore p e it u (high || low) advance, clips32 diff || (advance && clips32 it)) := piUpdate_eq p _ _ _
  refine ⟨_, exec_piUpd_instance hk rd r1 r2 s, ?_, fun m hm => s.storePiUpdate_pi_of_ne rd hm _, ?_, ?_,
    s.storePiUpdate_frame rd i _⟩
  · rw [State.storePiUpdate_pi_self, hupdate]
    rfl
  · have hwrite := xAfter_storePiUpdate s rd i (piUpdate p (uv s.ts) (s.sx r1) (s.sx r2))
    rwa [piUpdate_out] at hwrite
  · rw [State.storePiUpdate_satf, hupdate, clips32_eq_decide, clips32_eq_decide, Bool.or_assoc]

/-- Settles O42: the output is a clamp, and each clamped path advances only if the error unwinds it. -/
theorem piOutputIsBoundedWithoutWindup : Obligations.PiOutputIsBoundedWithoutWindup := by
  intro rd r1 r2 k i s t hk h p e ut
  rw [exec_piUpd_instance hk] at h
  cases h
  rw [State.readX_storePiUpdate_self, State.storePiUpdate_pi_self]
  refine ⟨rfl, fun hbounds => ?_, piUpdate_high, piUpdate_low⟩
  rw [piUpdate_out, sv_toWord_piOutput]
  exact piOutput_mem_bounds hbounds _

/-- Settles O43: `pi.rst` keeps the gains, the bounds and the operands, and its integrator adds 0. -/
theorem piUpdateAfterReset : Obligations.PiUpdateAfterReset := by
  intro rd r1 r2 k i s hk e
  refine ⟨_, _, exec_piRst_instance hk s, exec_piUpd_instance hk rd r1 r2 _, ?_⟩
  rw [State.readX_storePiUpdate_self, piUpdate_out, piOutput_eq_clamp, State.setPi_get_self]
  have hzero (x : Int) : sv 0 + x = x := zero_add x
  simp only [piTentative, piInteg, hzero]
  rfl

/-- Settles O44: one update is a function of the instance, `TS` and the two operands. -/
theorem piUpdateReadsOnlyItsInstance : Obligations.PiUpdateReadsOnlyItsInstance := by
  intro rd r1 r2 k i s s' t t' hk hpi hts h1 h2 h h'
  rw [exec_piUpd_instance hk] at h h'
  have hupdate : piUpdate s'.pi[i] (uv s'.ts) (s'.sx r1) (s'.sx r2) =
      piUpdate s.pi[i] (uv s.ts) (s.sx r1) (s.sx r2) := by
    simp only [State.sx, hpi, hts, h1, h2]
  rw [hupdate] at h'
  cases h
  cases h'
  simp only [State.storePiUpdate_pi_self, State.readX_storePiUpdate_self, true_and]
  exact ⟨_, rfl, rfl⟩

end Sys2Proof.Machine

/-! ## Proofs: the PR regulator (43_pr.md R311-R313)

One update in closed form, where it stores its result, the two sides of tuning, and two opposite frequencies
whose cosines differ. -/

namespace Sys2Proof.Machine

/-! ### The commands on an existing instance -/

/-- A command whose `INST` names a PR instance is carried out on it (30_encoding.md R174). -/
theorem onPr_instance {j : InstNo} {i : Fin 2} (hj : j.toNat = i.val) (s : State) (f : Fin 2 → State) :
    onPr j s f = .next (f i) := (onPr_next j s _ f).2 (.inl ⟨i, hj, rfl⟩)

/-- Stores what one update of `PR[i]` answers: its saturation, its registers, and its output in `X[rd]`
(43_pr.md R311). -/
def State.storePrUpdate (s : State) (rd : RegNo) (i : Fin 2) (r : PrUnit × Bool) : State :=
  ((s.noteSat r.2).setPr i r.1).writeX rd r.1.out

theorem exec_prUpd_instance {j : InstNo} {i : Fin 2} (hj : j.toNat = i.val) (rd r1 r2 : RegNo) (s : State) :
    exec (.prUpd rd r1 r2 j) s = .next (s.storePrUpdate rd i (prUpdate s.pr[i] (s.sx r1) (s.sx r2))) :=
  onPr_instance hj s _

theorem exec_prRst_instance {j : InstNo} {i : Fin 2} (hj : j.toNat = i.val) (s : State) :
    exec (.prRst j) s = .next (s.setPr i { s.pr[i] with w1 := 0, w2 := 0, out := 0, sat := false }) :=
  onPr_instance hj s _

/-- A positive denominator tunes the instance (43_pr.md R313). -/
theorem exec_prSetf_of_den_pos {j : InstNo} {i : Fin 2} (hj : j.toNat = i.val) (r1 : RegNo) (s : State)
    (hden : 0 < prDen (sv s.pr[i].wc) (s.sx r1) (uv s.ts)) :
    exec (.prSetf r1 j) s = .next ((s.noteSat (prTuneClips s.pr[i] (uv s.ts) (s.sx r1))).setPr i
      (prTuned s.pr[i] (uv s.ts) (s.sx r1))) := by
  refine (onPr_instance hj s _).trans ?_
  rw [if_neg (not_le.2 hden)]

/-- Any other denominator raises `ARGERR` alone (60_exceptions.md R432). -/
theorem exec_prSetf_of_den_nonpos {j : InstNo} {i : Fin 2} (hj : j.toNat = i.val) (r1 : RegNo) (s : State)
    (hden : prDen (sv s.pr[i].wc) (s.sx r1) (uv s.ts) ≤ 0) :
    exec (.prSetf r1 j) s = .next (s.raise .argerr) := by
  refine (onPr_instance hj s _).trans ?_
  rw [if_pos hden]

theorem State.setPr_get_self (s : State) (i : Fin 2) (p : PrUnit) : (s.setPr i p).pr[i] = p := by
  rw [State.setPr_get, if_pos rfl]

theorem State.setPr_get_of_ne (s : State) {i m : Fin 2} (hm : m ≠ i) (p : PrUnit) :
    (s.setPr i p).pr[m] = s.pr[m] := by
  rw [State.setPr_get, if_neg hm]

theorem State.storePrUpdate_pr_self (s : State) (rd : RegNo) (i : Fin 2) (r : PrUnit × Bool) :
    (s.storePrUpdate rd i r).pr[i] = r.1 := (s.noteSat r.2).setPr_get_self i r.1

theorem State.storePrUpdate_pr_of_ne (s : State) (rd : RegNo) {i m : Fin 2} (hm : m ≠ i) (r : PrUnit × Bool) :
    (s.storePrUpdate rd i r).pr[m] = s.pr[m] := (s.noteSat r.2).setPr_get_of_ne hm r.1

theorem State.storePrUpdate_satf (s : State) (rd : RegNo) (i : Fin 2) (r : PrUnit × Bool) :
    (s.storePrUpdate rd i r).satf = (s.satf || r.2) := rfl

theorem xAfter_storePrUpdate (s : State) (rd : RegNo) (i : Fin 2) (r : PrUnit × Bool) :
    xAfter s (s.storePrUpdate rd i r) [(rd, r.1.out)] :=
  xAfter_writeX ((s.noteSat r.2).setPr i r.1) rd r.1.out

theorem State.storePrUpdate_frame (s : State) (rd : RegNo) (i : Fin 2) (r : PrUnit × Bool) :
    s.storePrUpdate rd i r =
      { s with pr := (s.storePrUpdate rd i r).pr, x := (s.storePrUpdate rd i r).x,
               satf := (s.storePrUpdate rd i r).satf } := rfl

/-! ### One update in closed form -/

theorem clips64_eq_decide (x : Int) : clips64 x = decide (sat64 x ≠ x) := by
  rw [Bool.eq_iff_iff, clips64_iff, decide_eq_true_iff]

/-- The output `ut` before the bounds, from the error and the resonant output (43_pr.md R311). -/
def prTentative (p : PrUnit) (e y : Int) : Int := rnd 16 (sv p.kp * e) + rnd 16 (sv p.kr * y)

/-- The three paths of an update as one: they store the same new state `wn` and differ in the output and its
flag alone (43_pr.md R311). -/
theorem prUpdate_eq (p : PrUnit) (ref fb : Int) :
    prUpdate p ref fb =
      let e := sat32 (ref - fb)
      let wn := sat64 (prNewState p e)
      let ut := prTentative p e (sat32 (prResonant p wn))
      let high := decide (ut > sv p.umax)
      let low := !high && decide (ut < sv p.umin)
      (prStore p wn (if high then sv p.umax else if low then sv p.umin else ut) (high || low),
        clips32 (ref - fb) || clips64 (prNewState p e) || clips32 (prResonant p wn)) := by
  unfold prUpdate
  dsimp only
  rw [← prTentative]
  generalize prTentative p _ _ = ut
  by_cases hhigh : sv p.umax < ut
  · simp [hhigh]
  · by_cases hlow : ut < sv p.umin
    · simp [hhigh, hlow]
    · simp [hhigh, hlow]

/-! ### The obligations -/

/-- Settles O45, by the closed form of one update. -/
theorem prUpdateResult : Obligations.PrUpdateResult := by
  intro rd r1 r2 j i s hj p diff e w wn yr ut high low u
  have hupdate : prUpdate p (s.sx r1) (s.sx r2) =
      (prStore p wn u (high || low), clips32 diff || clips64 w || clips32 yr) := prUpdate_eq p _ _
  refine ⟨_, exec_prUpd_instance hj rd r1 r2 s, ?_, fun m hm => s.storePrUpdate_pr_of_ne rd hm _, ?_, ?_,
    s.storePrUpdate_frame rd i _⟩
  · rw [State.storePrUpdate_pr_self, hupdate]
    rfl
  · have hwrite := xAfter_storePrUpdate s rd i (prUpdate p (s.sx r1) (s.sx r2))
    rwa [hupdate] at hwrite ⊢
  · rw [State.storePrUpdate_satf, hupdate]
    simp only [clips32_eq_decide, clips64_eq_decide, Bool.or_assoc]
    rfl

/-- Settles O46: the command stores the one instance and nothing else. -/
theorem prResetResult : Obligations.PrResetResult := fun _j i s hj =>
  ⟨_, exec_prRst_instance hj s, s.setPr_get_self i _, fun _m hm => s.setPr_get_of_ne hm _, rfl⟩

/-- Settles O47, by the two sides of the test on the denominator. -/
theorem prTuneResult : Obligations.PrTuneResult := by
  intro r1 j i s hj p w0 phi c cc c2 m den b0 a1 a2
  refine ⟨fun hden => ⟨_, exec_prSetf_of_den_pos hj r1 s hden, ?_, fun n hn => State.setPr_get_of_ne _ hn _, ?_,
    rfl⟩, exec_prSetf_of_den_nonpos hj r1 s⟩
  · rw [State.setPr_get_self, prTuned, State.sx, toWord_sv]
    rfl
  · rw [State.setPr_satf, State.noteSat_satf, prTuneClips]
    simp only [clips32_eq_decide, Bool.or_assoc]
    rfl

/-- Refutes O48: `w0 = 322680002` and its negation, at the example's sampling period (43_pr.md R313), have
cosines that differ in their last bits (log entry 10). -/
theorem not_tuneCosineIsEven : ¬ Obligations.TuneCosineIsEven := by
  intro h
  have hpos : (sincos (BitVec.ofInt 32 (prPhi (sv 322680002) (uv 429497)))).1 = 1041367516 := by decide
  have hneg : (sincos (BitVec.ofInt 32 (prPhi (-sv 322680002) (uv 429497)))).1 = 1041367578 := by decide
  exact absurd (hneg.symm.trans ((h 322680002 429497).trans hpos)) (by decide)

end Sys2Proof.Machine

/-! ## Proofs: the phase-locked loop (44_pll.md R341-R344)

One update as R341 writes it, where it stores its results, and what its lock state and its bounds keep to. -/

namespace Sys2Proof.Machine

/-! ### The command with a legal destination -/

/-- Stores what one update of the PLL answers: its saturation, its registers, and the angle and the frequency
in `X[rd]` and `X[rd+1]` (44_pll.md R341). -/
def State.storePllUpdate (s : State) (rd : RegNo) (p : PllUnit) (clips : Bool) : State :=
  ((s.noteSat clips).setPll p).writeX2 rd p.theta p.omega

theorem exec_pllUpd_legal {rd : RegNo} (hrd : rd.toNat ≤ 14) (r1 r2 : RegNo) (s : State) :
    exec (.pllUpd rd r1 r2) s = .next
      (s.storePllUpdate rd (pllUpdate s.pll (uv s.ts) (s.sx r1) (s.sx r2))
        (pllClips s.pll (s.sx r1) (s.sx r2))) :=
  whenLegal_spanFits (by omega) s _

@[simp] theorem State.storePllUpdate_pll (s : State) (rd : RegNo) (p : PllUnit) (clips : Bool) :
    (s.storePllUpdate rd p clips).pll = p := rfl

theorem State.storePllUpdate_satf (s : State) (rd : RegNo) (p : PllUnit) (clips : Bool) :
    (s.storePllUpdate rd p clips).satf = (s.satf || clips) := rfl

theorem xAfter_storePllUpdate (s : State) (rd : RegNo) (p : PllUnit) (clips : Bool) :
    xAfter s (s.storePllUpdate rd p clips) [(rd, p.theta), (rd + 1, p.omega)] :=
  xAfter_writeX2 ((s.noteSat clips).setPll p) rd p.theta p.omega

theorem State.storePllUpdate_frame (s : State) (rd : RegNo) (p : PllUnit) (clips : Bool) :
    s.storePllUpdate rd p clips =
      { s with pll := (s.storePllUpdate rd p clips).pll, x := (s.storePllUpdate rd p clips).x,
               satf := (s.storePllUpdate rd p clips).satf } := rfl

/-! ### The magnitude and the angle -/

theorem pllMag_nonneg (va vb : Int) : 0 ≤ pllMag va vb := Int.natCast_nonneg _

theorem pllMag_zero : pllMag 0 0 = 0 := by simp [pllMag, isqrt_eq_sqrt]

theorem pllMag_eq_isqrt_sq (va vb : Int) : pllMag va vb = (isqrt (va ^ 2 + vb ^ 2).toNat : Int) := by
  rw [pllMag, sq, sq]

/-- What is not negative saturates at the upper bound alone. -/
theorem sat32_of_nonneg {x : Int} (h : 0 ≤ x) :
    sat32 x = if x > 2 ^ 31 - 1 then 2 ^ 31 - 1 else x := by
  rw [sat32, if_neg (c := x < min32) (by unfold min32; omega)]
  rfl

theorem sat32_nonneg {x : Int} (h : 0 ≤ x) : 0 ≤ sat32 x := by
  rw [sat32_of_nonneg h]
  split <;> omega

/-- The angle word wraps by itself (44_pll.md R341; conflict C7). -/
theorem ofInt_emod_word (x : Int) : BitVec.ofInt 32 (x % 2 ^ 32) = BitVec.ofInt 32 x :=
  BitVec.eq_of_toNat_eq (by simp [BitVec.toNat_ofInt])

/-! ### The lock state -/

theorem pllGood_eq_abs (p : PllUnit) (vq vm : Int) :
    pllGood p vq vm = decide (|vq| * 2 ^ 16 < sv p.lockThr * vm) := by
  rw [pllGood, Int.natCast_natAbs]
  rfl

/-- Without a positive right-hand side the strict lock test fails (44_pll.md R341, corner cases). -/
theorem pllGood_of_nonpos {p : PllUnit} {vm : Int} (h : sv p.lockThr * vm ≤ 0) (vq : Int) :
    pllGood p vq vm = false := by
  have hvq : (0 : Int) ≤ (vq.natAbs : Int) * 65536 := by positivity
  exact decide_eq_false (not_lt.2 (h.trans hvq))

/-- The lock counter does not wrap: it stops at `LOCK_N`. -/
theorem toNat_pllCount (p : PllUnit) (good : Bool) :
    (pllCount p good).toNat = if good then min (p.lcnt.toNat + 1) p.lockN.toNat else 0 := by
  have hn := p.lockN.isLt
  cases good with
  | false => rfl
  | true =>
    rw [pllCount, if_pos rfl, if_pos rfl, BitVec.toNat_ofNat, Nat.mod_eq_of_lt (by omega)]

theorem pllCount_eq_ofNat (p : PllUnit) (good : Bool) :
    pllCount p good = BitVec.ofNat 16 (if good then min (p.lcnt.toNat + 1) p.lockN.toNat else 0) := by
  rw [← toNat_pllCount, BitVec.ofNat_toNat, BitVec.setWidth_eq]

theorem pllCount_beq_lockN (p : PllUnit) (good : Bool) :
    (pllCount p good == p.lockN) =
      decide ((if good then min (p.lcnt.toNat + 1) p.lockN.toNat else 0) = p.lockN.toNat) := by
  rw [Bool.eq_iff_iff, beq_iff_eq, decide_eq_true_iff, ← toNat_pllCount, BitVec.toNat_inj]

theorem pllCount_le_lockN (p : PllUnit) (good : Bool) : (pllCount p good).toNat ≤ p.lockN.toNat := by
  rw [toNat_pllCount]
  split <;> omega

/-! ### One update -/

/-- The lock test of one update, on its saturated `q` component and magnitude (44_pll.md R341). -/
def pllUpdateGood (p : PllUnit) (va vb : Int) : Bool :=
  pllGood p (sat32 (parkQ va vb p.theta)) (sat32 (pllMag va vb))

/-- The phase error of one update (44_pll.md R341). -/
def pllErr (p : PllUnit) (va vb : Int) : Int := sat32 (-sat32 (parkQ va vb p.theta))

theorem pllUpdate_lcnt (p : PllUnit) (t va vb : Int) :
    (pllUpdate p t va vb).lcnt = pllCount p (pllUpdateGood p va vb) := rfl

theorem pllUpdate_lock (p : PllUnit) (t va vb : Int) :
    (pllUpdate p t va vb).lock = (pllUpdateGood p va vb && (pllUpdate p t va vb).lcnt == p.lockN) := rfl

theorem pllUpdate_lockN (p : PllUnit) (t va vb : Int) : (pllUpdate p t va vb).lockN = p.lockN := rfl

theorem pllUpdate_omega (p : PllUnit) (t va vb : Int) : (pllUpdate p t va vb).omega =
    toWord (pllOmega p (pllErr p va vb) (sat32 (pllInteg p (pllErr p va vb)))) := rfl

theorem pllUpdate_integ (p : PllUnit) (t va vb : Int) :
    (pllUpdate p t va vb).integ = satWord (pllInteg p (pllErr p va vb)) := rfl

/-- A bad update clears the counter and the flag (44_pll.md R341). -/
theorem pllUpdate_bad {p : PllUnit} {va vb : Int} (hbad : pllUpdateGood p va vb = false) (t : Int) :
    (pllUpdate p t va vb).lock = false ∧ (pllUpdate p t va vb).lcnt = 0 := by
  rw [pllUpdate_lock, pllUpdate_lcnt, hbad]
  exact ⟨rfl, rfl⟩

/-- With consistent bounds the frequency is within them, and so it fits its register (44_pll.md R344 item 4). -/
theorem sv_pllUpdate_omega_mem {p : PllUnit} (h : sv p.wmin ≤ sv p.wmax) (t va vb : Int) :
    sv p.wmin ≤ sv (pllUpdate p t va vb).omega ∧ sv (pllUpdate p t va vb).omega ≤ sv p.wmax := by
  have hmem (x : Int) := clamp_mem x (sv p.wmin) (sv p.wmax) h
  rw [pllUpdate_omega, pllOmega,
    sv_toWord _ ((sv_range p.wmin).1.trans (hmem _).1) ((hmem _).2.trans (sv_range p.wmax).2)]
  exact hmem _

/-- Bounds on the integrator that fit in 32 bits survive its saturation (44_pll.md R344 item 4). -/
theorem sv_pllUpdate_integ_mem {p : PllUnit} (h : sv p.wmin ≤ sv p.wmax)
    (hlow : min32 ≤ sv p.wmin - sv p.wff) (hhigh : sv p.wmax - sv p.wff ≤ max32) (t va vb : Int) :
    sv p.wmin - sv p.wff ≤ sv (pllUpdate p t va vb).integ ∧
      sv (pllUpdate p t va vb).integ ≤ sv p.wmax - sv p.wff := by
  have hmem (x : Int) := clamp_mem x (sv p.wmin - sv p.wff) (sv p.wmax - sv p.wff) (by omega)
  rw [pllUpdate_integ, sv_satWord, pllInteg,
    sat32_of_range (hlow.trans (hmem _).1) ((hmem _).2.trans hhigh)]
  exact hmem _

/-- A zero vector has magnitude 0, and no magnitude is negative: either way the lock test fails
(44_pll.md R341, corner cases). -/
theorem pllUpdateGood_eq_false {p : PllUnit} {va vb : Int} (h : (va = 0 ∧ vb = 0) ∨ sv p.lockThr ≤ 0) :
    pllUpdateGood p va vb = false := by
  refine pllGood_of_nonpos ?_ _
  obtain ⟨rfl, rfl⟩ | hthr := h
  · have hmag : sat32 (pllMag 0 0) = 0 := by rw [pllMag_zero]; rfl
    rw [hmag, mul_zero]
  · exact mul_nonpos_of_nonpos_of_nonneg hthr (sat32_nonneg (pllMag_nonneg va vb))

/-! ### The obligations -/

/-- Settles O50: the command stores the PLL registers and nothing else. -/
theorem pllResetResult : Obligations.PllResetResult := fun _ => rfl

/-- Settles O49: the registers by the rules above, `SATF` by its five sources. -/
theorem pllUpdateResult : Obligations.PllUpdateResult := by
  intro rd r1 r2 s hrd p va vb c sn d q vq mag vm err ir it w th good count
  have hmag : pllMag va vb = mag := pllMag_eq_isqrt_sq va vb
  have hvm : sat32 mag = vm := sat32_of_nonneg (Int.natCast_nonneg _)
  have hupdate : pllUpdate p (uv s.ts) va vb = { p with
      theta := BitVec.ofInt 32 th, omega := toWord w, integ := toWord it
      vd := toWord (sat32 d), vq := toWord vq, vmag := toWord vm
      lcnt := BitVec.ofNat 16 count, lock := good && decide (count = p.lockN.toNat) } := by
    rw [ofInt_emod_word, pllUpdate]
    simp only [hmag, hvm, pllGood_eq_abs, pllCount_beq_lockN]
    rw [pllCount_eq_ofNat]
    rfl
  have hclips : pllClips p va vb = (decide (sat32 d ≠ d) || decide (vq ≠ q) || decide (err ≠ -vq)
      || decide (it ≠ ir) || decide (mag ≠ vm)) := by
    simp only [pllClips, clips32_eq_decide, hmag, hvm, ne_comm (a := mag)]
    rw [Bool.or_right_comm _ (decide (vm ≠ mag)), Bool.or_right_comm _ (decide (vm ≠ mag))]
    rfl
  have hexec : exec (.pllUpd rd r1 r2) s = .next
      (s.storePllUpdate rd (pllUpdate p (uv s.ts) va vb) (pllClips p va vb)) := exec_pllUpd_legal hrd r1 r2 s
  rw [hupdate, hclips] at hexec
  refine ⟨_, hexec, rfl, xAfter_storePllUpdate s rd _ _, ?_, s.storePllUpdate_frame rd _ _⟩
  rw [State.storePllUpdate_satf]
  simp only [Bool.or_assoc]

/-- Settles O51: the counter stops at `LOCK_N`, and the clamps are within their bounds. -/
theorem pllStaysWithinItsBounds : Obligations.PllStaysWithinItsBounds := by
  intro rd r1 r2 s t hrd h
  rw [exec_pllUpd_legal hrd] at h
  cases h
  rw [State.storePllUpdate_pll]
  refine ⟨?_, fun hlock => ?_, fun hbounds => ?_⟩
  · exact pllCount_le_lockN s.pll _
  · rw [pllUpdate_lock, Bool.and_eq_true, beq_iff_eq] at hlock
    exact hlock.2
  · obtain ⟨hmin, hmax⟩ := sv_pllUpdate_omega_mem hbounds (uv s.ts) (s.sx r1) (s.sx r2)
    exact ⟨hmin, hmax, fun hlow _ _ hhigh =>
      sv_pllUpdate_integ_mem hbounds hlow (Int.le_of_lt_add_one hhigh) _ _ _⟩

/-- Settles O52: the lock test fails, and a bad update clears the lock state. -/
theorem pllNeverLocksOnNothing : Obligations.PllNeverLocksOnNothing := by
  intro rd r1 r2 s t hrd h hnothing
  rw [exec_pllUpd_legal hrd] at h
  cases h
  rw [State.storePllUpdate_pll]
  refine pllUpdate_bad (pllUpdateGood_eq_false (hnothing.imp_left ?_)) _
  rintro ⟨h1, h2⟩
  exact ⟨congrArg sv h1, congrArg sv h2⟩

end Sys2Proof.Machine

/-! ## Proofs: the space-vector modulator (45_svm.md R370-R375)

One modulation as R371 writes it, where it stores its results, and what its duties and its sector keep to. -/

namespace Sys2Proof.Machine

/-! ### The command on either side of the bus voltage test -/

/-- Stores what one modulation answers: its saturation, the registers of the modulator, and the duties in
`X[rd]`, `X[rd+1]` and `X[rd+2]` (45_svm.md R371). -/
def State.storeSvm (s : State) (rd : RegNo) (p : SvmUnit) (clips : Bool) : State :=
  ((s.noteSat clips).setSvm p).writeX3 rd p.dutyA p.dutyB p.dutyC

theorem exec_svmCalc_of_vdc_pos {rd r3 : RegNo} {s : State} (hrd : rd.toNat ≤ 13) (hvdc : 0 < s.sx r3)
    (r1 r2 : RegNo) : exec (.svmCalc rd r1 r2 r3) s = .next
      (s.storeSvm rd (svmCompute (s.sx r1) (s.sx r2) (s.sx r3)) (svmClips (s.sx r1) (s.sx r2) (s.sx r3))) := by
  refine (whenLegal_spanFits (by omega) s _).trans ?_
  rw [if_neg (by omega)]
  rfl

theorem exec_svmCalc_of_vdc_nonpos {rd r3 : RegNo} {s : State} (hrd : rd.toNat ≤ 13) (hvdc : s.sx r3 ≤ 0)
    (r1 r2 : RegNo) : exec (.svmCalc rd r1 r2 r3) s = .next (s.raise .argerr) := by
  refine (whenLegal_spanFits (by omega) s _).trans ?_
  rw [if_pos hvdc]

@[simp] theorem State.storeSvm_svm (s : State) (rd : RegNo) (p : SvmUnit) (clips : Bool) :
    (s.storeSvm rd p clips).svm = p := rfl

theorem State.storeSvm_satf (s : State) (rd : RegNo) (p : SvmUnit) (clips : Bool) :
    (s.storeSvm rd p clips).satf = (s.satf || clips) := rfl

theorem xAfter_storeSvm (s : State) (rd : RegNo) (p : SvmUnit) (clips : Bool) :
    xAfter s (s.storeSvm rd p clips) [(rd, p.dutyA), (rd + 1, p.dutyB), (rd + 2, p.dutyC)] :=
  xAfter_writeX3 ((s.noteSat clips).setSvm p) rd p.dutyA p.dutyB p.dutyC

theorem State.storeSvm_frame (s : State) (rd : RegNo) (p : SvmUnit) (clips : Bool) :
    s.storeSvm rd p clips =
      { s with svm := (s.storeSvm rd p clips).svm, x := (s.storeSvm rd p clips).x,
               satf := (s.storeSvm rd p clips).satf } := rfl

/-! ### The sector code -/

theorem svmSector_eq_toNat (an bn : Int) : svmSector an bn =
    (decide (bn > 0)).toNat + 2 * (decide (rnd 30 (an * ks3) - bn > 0)).toNat
      + 4 * (decide (-rnd 30 (an * ks3) - bn > 0)).toNat := by
  simp only [svmSector, Bool.toNat, Bool.cond_decide, mul_ite, mul_one, mul_zero]

/-- The gain `√3` of the sector test is above 1/2, so it rounds no component but 0 to 0 (45_svm.md R371). -/
theorem rnd_mul_ks3_eq_zero_iff (an : Int) : rnd 30 (an * ks3) = 0 ↔ an = 0 := by
  have hfloor := rnd30_floor (an * ks3)
  unfold ks3 at *
  omega

/-- No test succeeds on the zero vector alone (45_svm.md R371, corner cases). -/
theorem svmSector_eq_zero_iff (an bn : Int) : svmSector an bn = 0 ↔ an = 0 ∧ bn = 0 := by
  have htests : svmSector an bn = 0 ↔
      ¬ bn > 0 ∧ ¬ rnd 30 (an * ks3) - bn > 0 ∧ ¬ -rnd 30 (an * ks3) - bn > 0 := by
    simp [svmSector, and_assoc]
  rw [htests, ← rnd_mul_ks3_eq_zero_iff]
  omega

theorem sat32_eq_zero_iff (x : Int) : sat32 x = 0 ↔ x = 0 := by
  rw [sat32, min32, max32]
  split <;> [skip; split] <;> omega

/-- The sector code fits the three bits of `SVM.SECTOR` (10_state.md R82). -/
theorem toNat_ofNat_svmSector (an bn : Int) : (BitVec.ofNat 3 (svmSector an bn)).toNat = svmSector an bn :=
  (BitVec.toNat_ofNat _ _).trans (Nat.mod_eq_of_lt (Nat.lt_of_le_of_lt (svmSector_le_six an bn) (by decide)))

/-! ### The tables -/

/-- The dwell table, row by row (45_svm.md R372). -/
theorem dwell_eq_ite (n : Nat) (x y z : Int) : dwell n x y z =
    if n = 3 then (-z, x) else if n = 1 then (z, y) else if n = 5 then (x, -y)
    else if n = 4 then (-x, z) else if n = 6 then (-y, -z) else if n = 2 then (y, -x) else (0, 0) := by
  unfold dwell
  split
  case h_7 h3 h1 h5 h4 h6 h2 =>
    rw [if_neg h3, if_neg h1, if_neg h5, if_neg h4, if_neg h6, if_neg h2]
  all_goals rfl

/-- The duty table, row by row (45_svm.md R373). -/
theorem dutyTable_eq_ite (n : Nat) (t1 t2 h : Int) :
    ((dutyTable n t1 t2 h).a, (dutyTable n t1 t2 h).b, (dutyTable n t1 t2 h).c) =
    if n = 3 then (t1 + t2 + h, t2 + h, h) else if n = 1 then (t2 + h, t1 + t2 + h, h)
    else if n = 5 then (h, t1 + t2 + h, t2 + h) else if n = 4 then (h, t2 + h, t1 + t2 + h)
    else if n = 6 then (t2 + h, h, t1 + t2 + h) else if n = 2 then (t1 + t2 + h, h, t2 + h) else (h, h, h) := by
  unfold dutyTable
  split
  case h_7 h3 h1 h5 h4 h6 h2 =>
    rw [if_neg h3, if_neg h1, if_neg h5, if_neg h4, if_neg h6, if_neg h2]
  all_goals rfl

/-- The rescale, component by component: `t2` is what the rescaled `t1` leaves of 1 (45_svm.md R371). -/
theorem rescale_eq (t : Int × Int) :
    let excess := decide (t.1 + t.2 > one)
    let t1 := if excess then divt (t.1 * one) (t.1 + t.2) else t.1
    rescale t = (t1, if excess then one - t1 else t.2) := by
  by_cases h : t.1 + t.2 > one <;> simp [rescale, h]

theorem clamp_zero_one (x : Int) : clamp x 0 one = max 0 (min one x) := clamp_eq_max_min (by decide) x

/-- A modulation as its sector and the duties of that sector (45_svm.md R371). -/
theorem svmCompute_of_sector {va vb vdc an bn : Int} {n : Nat} {d : Duties} (han : sat32 (svmNorm va vdc) = an)
    (hbn : sat32 (svmNorm vb vdc) = bn) (hn : svmSector an bn = n)
    (hd : svmDuties n (sat32 (svmX bn)) (sat32 (svmY an bn)) (sat32 (svmZ an bn)) = d) :
    svmCompute va vb vdc = ⟨toWord d.a, toWord d.b, toWord d.c, BitVec.ofNat 3 n⟩ := by
  subst han hbn hn hd
  rfl

/-! ### The duties and the sector of a modulation -/

/-- A duty lies in `[0, ONE]` by the final clamp (45_svm.md R375 item 1). -/
theorem toNat_toWord_duty_le (x : Int) : (toWord (clamp x 0 one)).toNat ≤ 65536 := by
  obtain ⟨hlow, hhigh⟩ := clamp_mem x 0 one (by decide)
  rw [toWord, BitVec.toNat_ofInt]
  rw [one] at *
  omega

theorem svmCompute_duties_le (va vb vdc : Int) : (svmCompute va vb vdc).dutyA.toNat ≤ 65536 ∧
    (svmCompute va vb vdc).dutyB.toNat ≤ 65536 ∧ (svmCompute va vb vdc).dutyC.toNat ≤ 65536 :=
  ⟨toNat_toWord_duty_le _, toNat_toWord_duty_le _, toNat_toWord_duty_le _⟩

theorem svmCompute_sector (va vb vdc : Int) : (svmCompute va vb vdc).sector =
    BitVec.ofNat 3 (svmSector (sat32 (svmNorm va vdc)) (sat32 (svmNorm vb vdc))) := rfl

theorem svmCompute_sector_eq_zero_iff (va vb vdc : Int) :
    (svmCompute va vb vdc).sector = 0 ↔ svmNorm va vdc = 0 ∧ svmNorm vb vdc = 0 := by
  rw [← sat32_eq_zero_iff (svmNorm va vdc), ← sat32_eq_zero_iff (svmNorm vb vdc), ← svmSector_eq_zero_iff,
    svmCompute_sector, ← BitVec.toNat_inj, toNat_ofNat_svmSector]
  rfl

/-- The zero vector has no dwell time, so every duty is half the period (45_svm.md R371, corner cases). -/
theorem svmDuties_zero (x y z : Int) : svmDuties 0 x y z = ⟨32768, 32768, 32768⟩ := rfl

theorem svmCompute_of_sector_eq_zero {va vb vdc : Int} (h : (svmCompute va vb vdc).sector = 0) :
    svmCompute va vb vdc = ⟨0x8000, 0x8000, 0x8000, 0⟩ := by
  obtain ⟨ha, hb⟩ := (svmCompute_sector_eq_zero_iff va vb vdc).1 h
  exact svmCompute_of_sector ((sat32_eq_zero_iff _).2 ha) ((sat32_eq_zero_iff _).2 hb)
    ((svmSector_eq_zero_iff 0 0).2 ⟨rfl, rfl⟩) (svmDuties_zero _ _ _)

/-- A duty port, 17 bits wide, carries every duty up to `ONE` whole (10_state.md R93). -/
theorem toNat_dutyPort {w : Word} (h : w.toNat ≤ 65536) : (w.extractLsb' 0 17).toNat = w.toNat := by
  rw [BitVec.extractLsb'_toNat, Nat.shiftRight_zero]
  exact Nat.mod_eq_of_lt (by omega)

/-! ### The obligations -/

/-- Settles O54: the command stores the registers of the modulator and nothing else. -/
theorem svmMidpointResult : Obligations.SvmMidpointResult := fun _ => rfl

/-- Settles O53: each table by its rows, `SATF` by its five sources, and `ARGERR` by the bus voltage test. -/
theorem svmResult : Obligations.SvmResult := by
  intro rd r1 r2 r3 s hrd vdc anr bnr an bn s3a n xr yr zr x y z t0 excess t1 t2 h d da db dc
  have hsector : svmSector an bn = n := svmSector_eq_toNat an bn
  have hdwell : dwell n x y z = t0 := dwell_eq_ite n x y z
  have hrescale : rescale t0 = (t1, t2) := rescale_eq t0
  have hduties : ((dutyTable n t1 t2 h).a, (dutyTable n t1 t2 h).b, (dutyTable n t1 t2 h).c) = d :=
    dutyTable_eq_ite n t1 t2 h
  have hclamped : svmDuties n x y z =
      ⟨max 0 (min 65536 d.1), max 0 (min 65536 d.2.1), max 0 (min 65536 d.2.2)⟩ := by
    simp only [svmDuties, hdwell, hrescale, clamp_zero_one, ← hduties]
    rfl
  have hcompute : svmCompute (s.sx r1) (s.sx r2) (s.sx r3) = ⟨da, db, dc, BitVec.ofNat 3 n⟩ :=
    svmCompute_of_sector rfl rfl hsector hclamped
  have hclips : svmClips (s.sx r1) (s.sx r2) (s.sx r3) = (decide (an ≠ anr) || decide (bn ≠ bnr)
      || decide (x ≠ xr) || decide (y ≠ yr) || decide (z ≠ zr)) := by
    simp only [svmClips, clips32_eq_decide]
    rfl
  refine ⟨fun hpos => ?_, fun hnonpos => exec_svmCalc_of_vdc_nonpos hrd hnonpos r1 r2⟩
  have hexec := exec_svmCalc_of_vdc_pos hrd hpos r1 r2
  rw [hcompute, hclips] at hexec
  refine ⟨_, hexec, rfl, xAfter_storeSvm s rd _ _, ?_, s.storeSvm_frame rd _ _⟩
  rw [State.storeSvm_satf]
  simp only [Bool.or_assoc]

/-- Settles O55: the clamp bounds the duties, the sector tests fail on the zero vector alone, and a port is
wide enough for a duty. -/
theorem svmDutiesAndSectorAreLegal : Obligations.SvmDutiesAndSectorAreLegal := by
  intro rd r1 r2 r3 s hrd hvdc
  obtain ⟨ha, hb, hc⟩ := svmCompute_duties_le (s.sx r1) (s.sx r2) (s.sx r3)
  refine ⟨_, exec_svmCalc_of_vdc_pos hrd hvdc r1 r2, ?_⟩
  rw [State.storeSvm_svm]
  refine ⟨ha, hb, hc, ?_, svmCompute_sector_eq_zero_iff _ _ _, svmCompute_of_sector_eq_zero,
    toNat_dutyPort ha, toNat_dutyPort hb, toNat_dutyPort hc, rfl, rfl, rfl⟩
  rw [svmCompute_sector, toNat_ofNat_svmSector]
  exact svmSector_le_six _ _

end Sys2Proof.Machine

/-! ## Proofs: the protection manager, and what every step keeps (46_protection.md R400-R404)

One update as R401 writes it, its debounce over many calls, and the invariant and the latched faults under every
event of the host. -/

namespace Sys2Proof.Machine

/-! ### The command with a legal sample -/

/-- What one update of the protection manager leaves: its registers, and the confirmed mask in `X[rd]`
(46_protection.md R401). -/
def State.afterProtUpd (rd r1 : RegNo) (s : State) : State :=
  (s.setProt (protUpdate s.prot (s.sample r1))).writeX rd
    ((protUpdate s.prot (s.sample r1)).active.zeroExtend 32)

theorem exec_protUpd_legal {r1 : RegNo} (hr1 : r1.toNat ≤ 11) (rd : RegNo) (s : State) :
    exec (.protUpd rd r1) s = .next (s.afterProtUpd rd r1) :=
  whenLegal_spanFits (by omega) s _

@[simp] theorem State.afterProtUpd_prot (s : State) (rd r1 : RegNo) :
    (s.afterProtUpd rd r1).prot = protUpdate s.prot (s.sample r1) := rfl

theorem State.readX_afterProtUpd_self (s : State) (rd r1 : RegNo) :
    (s.afterProtUpd rd r1).readX rd = (protUpdate s.prot (s.sample r1)).active.zeroExtend 32 :=
  State.readX_writeX_self _ rd _

theorem State.readX_afterProtUpd_of_ne (s : State) {rd q : RegNo} (hq : q ≠ rd) (r1 : RegNo) :
    (s.afterProtUpd rd r1).readX q = s.readX q :=
  (State.readX_writeX _ rd q _).trans (if_neg hq)

theorem xAfter_afterProtUpd (s : State) (rd r1 : RegNo) :
    xAfter s (s.afterProtUpd rd r1) [(rd, (protUpdate s.prot (s.sample r1)).active.zeroExtend 32)] :=
  xAfter_writeX (s.setProt _) rd _

/-! ### Detectors, debounce and mask -/

theorem peakCurrent_eq_max_abs (ia ib ic : Int) : peakCurrent ia ib ic = max |ia| (max |ib| |ic|) := by
  simp only [peakCurrent, Nat.cast_max, Int.natCast_natAbs]

/-- The debounce of one class: the counter stops at the limit, and there the class is confirmed
(46_protection.md R401). -/
theorem debounce_eq (raw : Bool) (cnt limit : BitVec 16) : debounce raw cnt limit =
    (if raw then if cnt < limit then cnt + 1 else cnt else 0, raw && decide (limit ≤ cnt)) := by
  obtain ⟨rfl, h⟩ | ⟨rfl, hcnt, h⟩ | ⟨rfl, hcnt, h⟩ := debounce_cases raw cnt limit <;> rw [h]
  · rfl
  · simp [BitVec.lt_def, BitVec.le_def, hcnt]
  · simp [BitVec.lt_def, BitVec.le_def, hcnt, not_lt.2 hcnt]

/-- The counter of one class does not wrap. -/
theorem toNat_debounce_count (raw : Bool) (cnt limit : BitVec 16) : (debounce raw cnt limit).1.toNat =
    if raw then if cnt.toNat < limit.toNat then cnt.toNat + 1 else cnt.toNat else 0 := by
  have hlimit := limit.isLt
  obtain ⟨rfl, h⟩ | ⟨rfl, hcnt, h⟩ | ⟨rfl, hcnt, h⟩ := debounce_cases raw cnt limit <;> rw [h]
  · rfl
  · rw [if_pos rfl, if_pos hcnt]
    have hone : (1 : BitVec 16).toNat = 1 := rfl
    exact BitVec.toNat_add_of_lt (by omega)
  · rw [if_pos rfl, if_neg (not_lt.2 hcnt)]

/-- A counter passes its limit only if it was past it before (46_protection.md R404 item 5). -/
theorem debounce_count_le (raw : Bool) (cnt limit : BitVec 16) :
    (debounce raw cnt limit).1.toNat ≤ max limit.toNat cnt.toNat := by
  rw [toNat_debounce_count]
  split <;> [split; skip] <;> omega

/-- A mask as the sum of its bits, each at its weight (10_state.md R92). -/
theorem faultMask_eq_ofNat (oc ov uv ot : Bool) : faultMask oc ov uv ot =
    BitVec.ofNat 8 (oc.toNat + 2 * ov.toNat + 4 * uv.toNat + 8 * ot.toNat) := by
  revert oc ov uv ot; decide

theorem getLsbD_faultMask_zero (oc ov uv ot : Bool) : (faultMask oc ov uv ot).getLsbD 0 = oc := by
  revert oc ov uv ot; decide

/-- Bit 0 of `ACTIVE` is the confirmed over-current. -/
theorem getLsbD_protUpdate_active_zero (p : ProtUnit) (m : Sample) :
    (protUpdate p m).active.getLsbD 0 = (rawOc p m && decide (p.debounce.toNat ≤ p.cntOc.toNat)) := by
  refine (getLsbD_faultMask_zero _ _ _ _).trans ?_
  rw [debounce_eq]
  rfl

theorem protUpdate_cntOc (p : ProtUnit) (m : Sample) :
    (protUpdate p m).cntOc = (debounce (rawOc p m) p.cntOc p.debounce).1 := rfl

theorem bne_zero_eq_decide (m : BitVec 8) : (m != 0) = decide (m ≠ 0) := by
  rw [Bool.eq_iff_iff, bne_iff_ne, decide_eq_true_iff]

/-! ### An over-current on every call -/

/-- A command that always carries out `f`, called `n` times, carries out the `n`-th iterate of `f`. -/
theorem repeatExec_eq_iterate {i : Instr} {f : State → State} (hf : ∀ s, exec i s = .next (f s)) (n : Nat) :
    ∀ s, repeatExec i n s = .next (f^[n] s) := by
  induction n with
  | zero => exact fun _ => rfl
  | succ n ih =>
    intro s
    rw [repeatExec, hf]
    exact ih (f s)

/-- What `n` calls of `prot.upd` from `s` leave in `t`, when every call sees an over-current: the over-current,
the limit, and one count per call up to the limit. -/
structure OverCurrentAfter (r1 : RegNo) (s : State) (n : Nat) (t : State) : Prop where
  raw : rawOc t.prot (t.sample r1) = true
  limit : t.prot.debounce = s.prot.debounce
  count : t.prot.cntOc.toNat = min n s.prot.debounce.toNat

/-- The thresholds are kept by a call, and so are the phase currents unless the result overwrites one. -/
theorem rawOc_afterProtUpd {rd r1 : RegNo} (h0 : rd ≠ r1) (h1 : rd ≠ r1 + 1) (h2 : rd ≠ r1 + 2) (s : State) :
    rawOc (s.afterProtUpd rd r1).prot ((s.afterProtUpd rd r1).sample r1) = rawOc s.prot (s.sample r1) := by
  simp only [rawOc, State.sample, State.sx, State.readX_afterProtUpd_of_ne _ h0.symm,
    State.readX_afterProtUpd_of_ne _ h1.symm, State.readX_afterProtUpd_of_ne _ h2.symm]
  rfl

theorem OverCurrentAfter.call {rd r1 : RegNo} (h0 : rd ≠ r1) (h1 : rd ≠ r1 + 1) (h2 : rd ≠ r1 + 2)
    {s t : State} {n : Nat} (h : OverCurrentAfter r1 s n t) :
    OverCurrentAfter r1 s (n + 1) (t.afterProtUpd rd r1) where
  raw := (rawOc_afterProtUpd h0 h1 h2 t).trans h.raw
  limit := h.limit
  count := by
    rw [State.afterProtUpd_prot, protUpdate_cntOc, toNat_debounce_count, h.raw, h.count, h.limit, if_pos rfl]
    split <;> omega

theorem OverCurrentAfter.calls {rd r1 : RegNo} (h0 : rd ≠ r1) (h1 : rd ≠ r1 + 1) (h2 : rd ≠ r1 + 2)
    {s : State} (hs : OverCurrentAfter r1 s 0 s) (n : Nat) :
    OverCurrentAfter r1 s n ((State.afterProtUpd rd r1)^[n] s) := by
  induction n with
  | zero => exact hs
  | succ n ih =>
    rw [Function.iterate_succ_apply']
    exact ih.call h0 h1 h2

/-- The next call confirms the over-current exactly when the counter has reached the limit. -/
theorem OverCurrentAfter.confirmed {r1 : RegNo} {s t : State} {n : Nat} (h : OverCurrentAfter r1 s n t) :
    (protUpdate t.prot (t.sample r1)).active.getLsbD 0 = decide (s.prot.debounce.toNat < n + 1) := by
  rw [getLsbD_protUpdate_active_zero, h.raw, h.limit, h.count, Bool.true_and]
  exact decide_eq_decide.2 (by omega)

/-! ### The invariant, unit by unit -/

/-- The masks and the flag agree (46_protection.md R404 items 1 and 6). -/
structure ProtUnit.Consistent (p : ProtUnit) : Prop where
  latchedCoversActive : p.latched &&& p.active = p.active
  trigIffLatched : p.trig = (p.latched != 0)

/-- The duties lie in `[0, ONE]` and the sector code is one of 0..6 (45_svm.md R371, R375 item 1). -/
structure SvmUnit.Legal (p : SvmUnit) : Prop where
  dutiesInRange : p.dutyA.toNat ≤ 65536 ∧ p.dutyB.toNat ≤ 65536 ∧ p.dutyC.toNat ≤ 65536
  sectorLegal : p.sector.toNat ≤ 6

theorem State.inv_iff_units (s : State) : s.Inv ↔
    s.prot.Consistent ∧ s.svm.Legal ∧ 0 ≤ sv s.pll.vmag ∧ ∀ j : Fin 2, s.pr[j].coeffsAgree := by
  constructor
  · rintro ⟨hcovers, htrig, hduties, hsector, hvmag, hpr⟩
    exact ⟨⟨hcovers, htrig⟩, ⟨hduties, hsector⟩, hvmag, hpr⟩
  · rintro ⟨⟨hcovers, htrig⟩, ⟨hduties, hsector⟩, hvmag, hpr⟩
    exact ⟨hcovers, htrig, hduties, hsector, hvmag, hpr⟩

/-! ### What the operations of the units keep -/

/-- The new registers are as consistent as the old, and no latched fault is lost. -/
structure ProtUnit.Latches (p q : ProtUnit) : Prop where
  consistent : p.Consistent → q.Consistent
  latched : p.latched &&& q.latched = p.latched

theorem ProtUnit.Latches.of_eq {p q : ProtUnit} (hactive : q.active = p.active) (hlatched : q.latched = p.latched)
    (htrig : q.trig = p.trig) : p.Latches q where
  consistent := by
    rintro ⟨hcovers, hiff⟩
    exact ⟨by rw [hactive, hlatched, hcovers], by rw [htrig, hlatched, hiff]⟩
  latched := by rw [hlatched, BitVec.and_self]

/-- A mask ored into both masks leaves `LATCHED` covering `ACTIVE`. -/
theorem or_and_or_of_covers {l a : BitVec 8} (h : l &&& a = a) (m : BitVec 8) :
    (l ||| m) &&& (a ||| m) = a ||| m := by
  ext i hi
  have hbit := congrArg (fun v : BitVec 8 => v[i]) h
  simp only [BitVec.getElem_and, BitVec.getElem_or] at hbit ⊢
  rw [← Bool.or_and_distrib_right, hbit]

theorem and_or_self (l m : BitVec 8) : l &&& (l ||| m) = l := by
  ext i hi
  rw [BitVec.getElem_and, BitVec.getElem_or]
  exact inf_sup_self

/-- A fault mask ored into `LATCHED` and `TRIG`, and ored into or stored over `ACTIVE`, is latched
(46_protection.md R401, R403). -/
theorem ProtUnit.Latches.of_mask {p q : ProtUnit} (m : BitVec 8) (hlatched : q.latched = p.latched ||| m)
    (htrig : q.trig = (p.trig || m != 0)) (hactive : q.active = m ∨ q.active = p.active ||| m) :
    p.Latches q where
  consistent := by
    rintro ⟨hcovers, hiff⟩
    refine ⟨?_, ?_⟩
    · obtain h | h := hactive <;> rw [h, hlatched]
      · simpa using or_and_or_of_covers (BitVec.and_zero (x := p.latched)) m
      · exact or_and_or_of_covers hcovers m
    · rw [htrig, hlatched, hiff, Bool.eq_iff_iff]
      simp only [Bool.or_eq_true, bne_iff_ne, ne_eq, BitVec.ofNat_eq_ofNat, BitVec.or_eq_zero_iff,
        not_and_or]
  latched := by rw [hlatched, and_or_self]

theorem protUpdate_latches (p : ProtUnit) (m : Sample) : p.Latches (protUpdate p m) :=
  .of_mask (protUpdate p m).active rfl rfl (.inl rfl)

theorem storeProt_latches (p : ProtUnit) (r : ProtReg) (v : Word) : p.Latches (storeProt r v p) := by
  cases r <;> exact .of_eq rfl rfl rfl

theorem svmCompute_legal (va vb vdc : Int) : (svmCompute va vb vdc).Legal where
  dutiesInRange := svmCompute_duties_le va vb vdc
  sectorLegal := by
    rw [svmCompute_sector, toNat_ofNat_svmSector]
    exact svmSector_le_six _ _

/-- `VMAG` is a saturated magnitude (10_state.md R79; 44_pll.md R341). -/
theorem pllUpdate_vmag_nonneg (p : PllUnit) (t va vb : Int) : 0 ≤ sv (pllUpdate p t va vb).vmag := by
  have hvmag : sv (pllUpdate p t va vb).vmag = sat32 (pllMag va vb) := sv_satWord _
  rw [hvmag]
  exact sat32_nonneg (pllMag_nonneg va vb)

theorem storePll_vmag (p : PllUnit) (r : PllReg) (v : Word) : (storePll r v p).vmag = p.vmag := by
  cases r <;> rfl

theorem PrUnit.coeffsAgree_of_eq {p q : PrUnit} (h0 : q.b0 = p.b0) (h1 : q.b1 = p.b1) (h2 : q.b2 = p.b2)
    (hp : p.coeffsAgree) : q.coeffsAgree := by
  rwa [PrUnit.coeffsAgree, h0, h1, h2]

theorem prUpdate_coeffsAgree {p : PrUnit} (hp : p.coeffsAgree) (ref fb : Int) :
    (prUpdate p ref fb).1.coeffsAgree := by
  rw [prUpdate_eq]
  exact PrUnit.coeffsAgree_of_eq rfl rfl rfl hp

/-- Tuning stores `B2` as the saturated negation of the saturated `B0` (43_pr.md R313). -/
theorem prTuned_coeffsAgree (p : PrUnit) (t w0 : Int) : (prTuned p t w0).coeffsAgree := by
  have hb0 : sv (prTuned p t w0).b0 = sat32 (prB0 (sv p.wc) w0 t) := sv_satWord _
  have hb2 : sv (prTuned p t w0).b2 = sat32 (-sat32 (prB0 (sv p.wc) w0 t)) := sv_satWord _
  exact ⟨rfl, by rw [hb0, hb2]⟩

theorem storePr_coeffsAgree {p : PrUnit} (hp : p.coeffsAgree) (r : PrReg) (v : Word) :
    (storePr r v p).coeffsAgree := by
  cases r <;> exact PrUnit.coeffsAgree_of_eq rfl rfl rfl hp

/-! ### What the commands keep -/

/-- What every event keeps but `prot.clr` and reset: each unit's part of the invariant, and the latched faults
(46_protection.md R404). -/
structure UnitsKeep (s t : State) : Prop where
  prot : s.prot.Latches t.prot
  svm : s.svm.Legal → t.svm.Legal
  pll : 0 ≤ sv s.pll.vmag → 0 ≤ sv t.pll.vmag
  pr : ∀ j : Fin 2, s.pr[j].coeffsAgree → t.pr[j].coeffsAgree

namespace UnitsKeep

variable {s t : State}

theorem of_eq (hpr : t.pr = s.pr) (hpll : t.pll = s.pll) (hsvm : t.svm = s.svm) (hprot : t.prot = s.prot) :
    UnitsKeep s t where
  prot := hprot ▸ .of_eq rfl rfl rfl
  svm := hsvm ▸ id
  pll := hpll ▸ id
  pr := hpr ▸ fun _ => id

theorem refl (s : State) : UnitsKeep s s := .of_eq rfl rfl rfl rfl

theorem inv (h : UnitsKeep s t) (hs : s.Inv) : t.Inv := by
  obtain ⟨hprot, hsvm, hpll, hpr⟩ := s.inv_iff_units.1 hs
  exact t.inv_iff_units.2 ⟨h.prot.consistent hprot, h.svm hsvm, h.pll hpll, fun j => h.pr j (hpr j)⟩

theorem raise (s : State) (e : ErrorBit) : UnitsKeep s (s.raise e) :=
  .of_eq (s.raise_pr e) (s.raise_pll e) (s.raise_svm e) (s.raise_prot e)

theorem respond (h : UnitsKeep s t) (a : BusResponse) : UnitsKeep s (t.respond a) :=
  ⟨h.prot, h.svm, h.pll, h.pr⟩

theorem noteSat (h : UnitsKeep s t) (b : Bool) : UnitsKeep s (t.noteSat b) := ⟨h.prot, h.svm, h.pll, h.pr⟩

theorem writeX (h : UnitsKeep s t) (r : RegNo) (v : Word) : UnitsKeep s (t.writeX r v) :=
  ⟨h.prot, h.svm, h.pll, h.pr⟩

theorem writeX2 (h : UnitsKeep s t) (rd : RegNo) (v0 v1 : Word) : UnitsKeep s (t.writeX2 rd v0 v1) :=
  (h.writeX rd v0).writeX (rd + 1) v1

theorem writeX3 (h : UnitsKeep s t) (rd : RegNo) (v0 v1 v2 : Word) : UnitsKeep s (t.writeX3 rd v0 v1 v2) :=
  (h.writeX2 rd v0 v1).writeX (rd + 2) v2

theorem setPi (h : UnitsKeep s t) (k : Fin 4) (p : PiUnit) : UnitsKeep s (t.setPi k p) :=
  ⟨h.prot, h.svm, h.pll, h.pr⟩

theorem setPr (h : UnitsKeep s t) (j : Fin 2) {p : PrUnit} (hp : s.pr[j].coeffsAgree → p.coeffsAgree) :
    UnitsKeep s (t.setPr j p) := by
  refine ⟨h.prot, h.svm, h.pll, fun i => ?_⟩
  rw [State.setPr_get]
  split
  · next hij => subst hij; exact hp
  · exact h.pr i

theorem setPll (h : UnitsKeep s t) {p : PllUnit} (hp : 0 ≤ sv s.pll.vmag → 0 ≤ sv p.vmag) :
    UnitsKeep s (t.setPll p) := ⟨h.prot, h.svm, hp, h.pr⟩

theorem setSvm (h : UnitsKeep s t) {p : SvmUnit} (hp : p.Legal) : UnitsKeep s (t.setSvm p) :=
  ⟨h.prot, fun _ => hp, h.pll, h.pr⟩

theorem setProt (h : UnitsKeep s t) {p : ProtUnit} (hp : s.prot.Latches p) : UnitsKeep s (t.setProt p) :=
  ⟨hp, h.svm, h.pll, h.pr⟩

theorem storeSat2 (s : State) (rd : RegNo) (v0 v1 : Int) : UnitsKeep s (s.storeSat2 rd v0 v1) :=
  ((refl s).noteSat _).writeX2 _ _ _

theorem storeSat3 (s : State) (rd : RegNo) (v0 v1 v2 : Int) : UnitsKeep s (s.storeSat3 rd v0 v1 v2) :=
  ((refl s).noteSat _).writeX3 _ _ _ _

theorem of_whenLegal {ok : Bool} {d : State} (hd : UnitsKeep s d) (h : whenLegal ok s d = .next t) :
    UnitsKeep s t := by
  obtain ⟨-, rfl⟩ | ⟨-, rfl⟩ := (whenLegal_next ok s d t).1 h
  · exact hd
  · exact raise s .ill

theorem of_onPi {k : InstNo} {f : Fin 4 → State} (hf : ∀ i, UnitsKeep s (f i)) (h : onPi k s f = .next t) :
    UnitsKeep s t := by
  obtain ⟨i, -, rfl⟩ | ⟨-, rfl⟩ := (onPi_next k s t f).1 h
  · exact hf i
  · exact raise s .ill

theorem of_onPr {j : InstNo} {f : Fin 2 → State} (hf : ∀ i, UnitsKeep s (f i)) (h : onPr j s f = .next t) :
    UnitsKeep s t := by
  obtain ⟨i, -, rfl⟩ | ⟨-, rfl⟩ := (onPr_next j s t f).1 h
  · exact hf i
  · exact raise s .ill

end UnitsKeep

/-- No command but `prot.clr` breaks a unit's part of the invariant or loses a latched fault. -/
theorem exec_unitsKeep {i : Instr} (hi : i ≠ .protClr) {s t : State} (h : exec i s = .next t) :
    UnitsKeep s t := by
  have hs := UnitsKeep.refl s
  cases i with
  | clarke rd rs1 rs2 rs3 => exact .of_whenLegal (.storeSat2 s rd _ _) h
  | iclarke rd rs1 rs2 => exact .of_whenLegal (.storeSat3 s rd _ _ _) h
  | park rd rs1 rs2 rs3 => exact .of_whenLegal (.storeSat2 s rd _ _) h
  | ipark rd rs1 rs2 rs3 => exact .of_whenLegal (.storeSat2 s rd _ _) h
  | piUpd rd rs1 rs2 k => exact .of_onPi (fun i => ((hs.noteSat _).setPi i _).writeX _ _) h
  | piRst k => exact .of_onPi (fun i => hs.setPi i _) h
  | prUpd rd rs1 rs2 j =>
    exact .of_onPr (fun i => ((hs.noteSat _).setPr i fun hp => prUpdate_coeffsAgree hp _ _).writeX _ _) h
  | prRst j =>
    refine .of_onPr (fun i => hs.setPr i ?_) h
    exact PrUnit.coeffsAgree_of_eq rfl rfl rfl
  | prSetf rs1 j =>
    refine .of_onPr (fun i => ?_) h
    split
    · exact .raise s .argerr
    · exact (hs.noteSat _).setPr i fun _ => prTuned_coeffsAgree _ _ _
  | pllUpd rd rs1 rs2 =>
    exact .of_whenLegal (((hs.noteSat _).setPll fun _ => pllUpdate_vmag_nonneg _ _ _ _).writeX2 _ _ _) h
  | pllRst =>
    cases h
    exact hs.setPll id
  | svmCalc rd rs1 rs2 rs3 =>
    refine .of_whenLegal ?_ h
    split
    · exact .raise s .argerr
    · exact ((hs.noteSat _).setSvm (svmCompute_legal _ _ _)).writeX3 _ _ _ _
  | svmMid =>
    cases h
    exact hs.setSvm ⟨by decide, by decide⟩
  | protUpd rd rs1 => exact .of_whenLegal ((hs.setProt (protUpdate_latches _ _)).writeX _ _) h
  | protClr => exact absurd rfl hi
  | protSet rs1 =>
    cases h
    exact hs.setProt (.of_mask ((s.readX rs1).extractLsb' 0 8) rfl rfl (.inr rfl))

/-- `prot.clr` breaks no part of the invariant: both masks and the flag are 0 (46_protection.md R402). -/
theorem protClr_keeps_inv {s t : State} (hs : s.Inv) (h : exec .protClr s = .next t) : t.Inv := by
  cases h
  obtain ⟨-, hsvm, hpll, hpr⟩ := s.inv_iff_units.1 hs
  exact (State.inv_iff_units _).2 ⟨⟨BitVec.and_self, rfl⟩, hsvm, hpll, hpr⟩

/-- The word `0x00000051` is the only one that runs `prot.clr` (30_encoding.md R175). -/
theorem execute_unitsKeep {w : Word} (hw : w ≠ 0x00000051) {s t : State} (h : execute w s = .next t) :
    UnitsKeep s t := by
  cases hdecode : decode w with
  | ok i =>
    rw [execute_ok hdecode] at h
    refine exec_unitsKeep ?_ h
    rintro rfl
    exact hw (decode_ok hdecode).2.symm
  | error e =>
    rw [execute_error hdecode] at h
    cases h
    exact .raise s .ill

/-! ### What the events keep -/

/-- A configuration register is no part of the invariant. -/
theorem storeCfg_unitsKeep (s : State) (r : WinReg) (v : Word) : UnitsKeep s (s.storeCfg r v) := by
  have hs := UnitsKeep.refl s
  cases r with
  | pi k r => exact hs.setPi k _
  | pr j r => exact hs.setPr j fun hp => storePr_coeffsAgree hp r v
  | pll r => exact hs.setPll fun hp => (storePll_vmag s.pll r v).symm ▸ hp
  | prot r => exact hs.setProt (storeProt_latches s.prot r v)
  | _ => exact .of_eq rfl rfl rfl rfl

theorem writeReg_unitsKeep (s : State) (r : WinReg) (v : Word) : UnitsKeep s (s.writeReg r v) := by
  rcases s.writeReg_cases r v with ⟨-, h⟩ | ⟨-, h⟩ | ⟨n, -, h⟩ | ⟨-, h⟩ | ⟨-, h⟩ <;> rw [h]
  · exact .of_eq rfl rfl rfl rfl
  · exact .of_eq rfl rfl rfl rfl
  · exact (UnitsKeep.refl s).writeX n v
  · obtain ⟨-, hraise⟩ | ⟨-, hstore⟩ := s.writeCfg_cases r v
    · rw [hraise]
      exact .raise s .wlock
    · rw [hstore]
      exact storeCfg_unitsKeep s r v
  · exact .refl s

theorem memRead_unitsKeep (s : State) (off : BitVec 12) (n : Nat) : UnitsKeep s (memRead off n s) := by
  unfold memRead
  split <;> exact (UnitsKeep.refl s).respond _

/-- A write that reaches `CMD` is a word at the offset of `CMD` (20_memory.md R133, R138). -/
theorem eq_cmdOffset_of_legalAccess {off : BitVec 12} {n : Nat} (hlegal : legalAccess off n = true)
    (hcmd : regAt off.toNat = .cmd) : n = 4 ∧ off = cmdOffset := by
  simp only [legalAccess, Bool.and_eq_true, beq_iff_eq] at hlegal
  obtain ⟨hn, haligned⟩ := hlegal
  exact ⟨hn, BitVec.eq_of_toNat_eq ((regAt_eq_iff haligned (by simp)).1 hcmd)⟩

theorem memWrite_unitsKeep {off : BitVec 12} {n : Nat} {v : Word}
    (hclr : HostEvent.write (.window off) n v ≠ cmdWrite 0x00000051) {s t : State}
    (h : memWrite off n v s = .next t) : UnitsKeep s t := by
  rcases memWrite_cases off n v s with ⟨-, hw⟩ | ⟨hlegal, hcmd, hw⟩ | ⟨-, -, hw⟩ <;> rw [hw] at h
  · cases h
    exact (UnitsKeep.refl s).respond _
  · obtain ⟨rfl, rfl⟩ := eq_cmdOffset_of_legalAccess hlegal hcmd
    have hkeep := execute_unitsKeep (fun hv => hclr (congrArg cmdWrite hv)) h
    exact ⟨hkeep.prot, hkeep.svm, hkeep.pll, hkeep.pr⟩
  · cases h
    exact (writeReg_unitsKeep s _ v).respond _

/-- Reset and the `prot.clr` word at `CMD` are the only events that can lose a latched fault. -/
theorem hostEvent_unitsKeep {e : HostEvent} (hreset : e ≠ .reset) (hclr : e ≠ cmdWrite 0x00000051) {s t : State}
    (h : hostEvent e s = .next t) : UnitsKeep s t := by
  match e, hreset, hclr, h with
  | .read (.window off) n, _, _, h => cases h; exact memRead_unitsKeep s off n
  | .read (.outside _) _, _, _, h => cases h; exact (UnitsKeep.refl s).respond _
  | .write (.window _) _ _, _, hclr, h => exact memWrite_unitsKeep hclr h
  | .write (.outside _) _ _, _, _, h => cases h; exact (UnitsKeep.refl s).respond _
  | .reset, hreset, _, _ => exact absurd rfl hreset

/-- The invariant does not look at the host's side of the port. -/
theorem State.Inv.host {s : State} (hs : s.Inv) (rest : List HostEvent) (a : BusResponse) :
    ({ s with pending := rest, resp := a } : State).Inv :=
  UnitsKeep.inv (s := s) (.of_eq rfl rfl rfl rfl) hs

theorem State.reset_inv : State.reset.Inv where
  latchedCoversActive := by decide
  trigIffLatched := by decide
  dutiesInRange := by decide
  sectorLegal := by decide
  vmagNonneg := by decide
  prCoeffs := fun j => by
    have hpr : State.reset.pr[j] = PrUnit.reset := by simp [State.reset]
    rw [hpr]
    exact ⟨rfl, rfl⟩

/-- Every event keeps the invariant; reset and `prot.clr` keep it beside the rest. -/
theorem hostEvent_keeps_inv {e : HostEvent} {s t : State} (hs : s.Inv) (h : hostEvent e s = .next t) : t.Inv := by
  by_cases hreset : e = .reset
  · subst hreset
    cases h
    exact State.reset_inv.host s.pending .silent
  by_cases hclr : e = cmdWrite 0x00000051
  · subst hclr
    exact protClr_keeps_inv (hs.host s.pending .okay) h
  exact (hostEvent_unitsKeep hreset hclr h).inv hs

/-! ### The obligations -/

/-- Settles O20: a step is idle or an event, and every event keeps the invariant. -/
theorem everyStepKeepsTheInvariant : Obligations.EveryStepKeepsTheInvariant := by
  intro s t hs h
  cases hpending : s.pending with
  | nil =>
    rw [step_idle hpending] at h
    cases h
    exact hs
  | cons e rest =>
    rw [step_event hpending] at h
    exact hostEvent_keeps_inv (hs.host rest s.resp) h

/-- Settles O25: an event that is neither of the two keeps the latched faults. -/
theorem onlyClearAndResetUnlatch : Obligations.OnlyClearAndResetUnlatch := by
  intro s t h hreset hclr
  cases hpending : s.pending with
  | nil =>
    rw [step_idle hpending] at h
    cases h
    exact BitVec.and_self
  | cons e rest =>
    rw [step_event hpending] at h
    rw [hpending, List.head?_cons, ne_eq, Option.some_inj] at hreset hclr
    exact (hostEvent_unitsKeep hreset hclr h).prot.latched

/-- Settles O56: the detectors, the debounce and the mask, each in the form of R401. -/
theorem protectionUpdateResult : Obligations.ProtectionUpdateResult := by
  intro rd r1 s hr1 p ia ib ic vdc temp oc ov uv ot count confirmed conf
  have hoc : rawOc p (s.sample r1) = oc := by
    rw [rawOc, peakCurrent_eq_max_abs]
    rfl
  have hupdate : protUpdate p (s.sample r1) = { p with
      active := conf, latched := p.latched ||| conf, trig := p.trig || decide (conf ≠ 0)
      cntOc := count oc p.cntOc, cntOv := count ov p.cntOv, cntUv := count uv p.cntUv
      cntOt := count ot p.cntOt } := by
    simp only [protUpdate, hoc, debounce_eq, faultMask_eq_ofNat, bne_zero_eq_decide]
    rfl
  have hwrite := xAfter_afterProtUpd s rd r1
  rw [hupdate] at hwrite
  exact ⟨_, exec_protUpd_legal hr1 rd s, hupdate, hwrite, rfl⟩

/-- Settles O59: the counter rises by one with each call up to the limit, and at the limit the next call
confirms. -/
theorem overCurrentIsConfirmedAfterDebounce : Obligations.OverCurrentIsConfirmedAfterDebounce := by
  intro rd r1 s n hr1 h0 h1 h2 hover hcnt
  have hraw : rawOc s.prot (s.sample r1) = true := by
    rw [rawOc, peakCurrent_eq_max_abs]
    exact decide_eq_true hover
  have hcalls := OverCurrentAfter.calls h0 h1 h2 ⟨hraw, rfl, by simp [hcnt]⟩
  refine ⟨_, repeatExec_eq_iterate (exec_protUpd_legal hr1 rd) n s, (hcalls n).count, fun hn => ?_⟩
  obtain ⟨m, rfl⟩ := Nat.exists_eq_add_one_of_ne_zero hn.ne'
  have hconfirmed := (hcalls m).confirmed
  rw [Function.iterate_succ_apply', State.readX_afterProtUpd_self, State.afterProtUpd_prot]
  exact ⟨hconfirmed, by simpa using hconfirmed⟩

/-- Settles O60: each counter is that of one debounce. -/
theorem debounceCountersAreBounded : Obligations.DebounceCountersAreBounded := by
  intro rd r1 s t hr1 h
  rw [exec_protUpd_legal hr1] at h
  cases h
  exact ⟨debounce_count_le _ _ _, debounce_count_le _ _ _, debounce_count_le _ _ _, debounce_count_le _ _ _⟩

/-- Settles O19: the masks are 0, the duties are at the midpoint, and the coefficients are 0. -/
theorem resetKeepsTheInvariant : Obligations.ResetKeepsTheInvariant := State.reset_inv

/-- Settles O57: the command stores the protection registers and nothing else. -/
theorem protectionClearResult : Obligations.ProtectionClearResult := fun _ => ⟨_, rfl, rfl, rfl⟩

/-- Settles O58: the mask is the low byte of the operand, and a zero mask ors nothing in. -/
theorem protectionSetResult : Obligations.ProtectionSetResult := by
  intro r1 s m
  have hm : (s.readX r1).extractLsb' 0 8 = m := (BitVec.setWidth_eq_extractLsb' (by decide)).symm
  have hexec : exec (.protSet r1) s = .next (s.setProt { s.prot with
      active := s.prot.active ||| m, latched := s.prot.latched ||| m
      trig := s.prot.trig || decide (m ≠ 0) }) := by
    rw [← bne_zero_eq_decide, ← hm]
    rfl
  refine ⟨_, hexec, fun hne => ⟨?_, ?_⟩, fun hzero => ?_, rfl, rfl, rfl, rfl⟩
  · exact beq_false_of_ne fun h => hne (BitVec.or_eq_zero_iff.1 h).2
  · exact Bool.or_eq_true_iff.2 (.inr (decide_eq_true hne))
  · rw [hzero]
    simp [State.setProt]

end Sys2Proof.Machine

/-! ## Proofs: errors (60_exceptions.md R430-R438)

How a command can end, and from that what each transaction can do to the four sticky error bits of `STATUS`. -/

namespace Sys2Proof.Machine

/-! ### How a command ends -/

/-- An operation that was done: `ILL`, `ARGERR` and `WLOCK` are as they were, and `SATF` can only have been set
(60_exceptions.md R430, R433). -/
structure Completed (s t : State) : Prop where
  ill : t.ill = s.ill
  argerr : t.argerr = s.argerr
  wlock : t.wlock = s.wlock
  satf : s.satf = true → t.satf = true

namespace Completed

variable {s t : State}

theorem refl (s : State) : Completed s s := ⟨rfl, rfl, rfl, id⟩

theorem respond (h : Completed s t) (a : BusResponse) : Completed s (t.respond a) :=
  ⟨h.ill, h.argerr, h.wlock, h.satf⟩

theorem storeCfg (s : State) (r : WinReg) (v : Word) : Completed s (s.storeCfg r v) := by
  cases r <;> exact ⟨rfl, rfl, rfl, id⟩

end Completed

/-- How a command ends, its word or its operands being legal or not (60_exceptions.md R430): refused with one
bit, or done. -/
inductive CommandOutcome (s : State) : Bool → State → Prop where
  | illegal : CommandOutcome s false (s.raise .ill)
  | argerr : CommandOutcome s true (s.raise .argerr)
  | completed {t : State} (h : Completed s t) : CommandOutcome s true t

namespace CommandOutcome

variable {s t : State} {legal ok : Bool}

theorem of_whenLegal {d : State} (h : whenLegal ok s d = .next t) (hlegal : legal = ok)
    (hd : CommandOutcome s true d) : CommandOutcome s legal t := by
  subst hlegal
  obtain ⟨rfl, rfl⟩ | ⟨rfl, rfl⟩ := (whenLegal_next legal s d t).1 h
  · exact hd
  · exact .illegal

theorem of_onPi {k : InstNo} {f : Fin 4 → State} (h : onPi k s f = .next t)
    (hf : ∀ i, CommandOutcome s true (f i)) : CommandOutcome s (decide (k.toNat < 4)) t := by
  obtain ⟨i, hk, rfl⟩ | ⟨hk, rfl⟩ := (onPi_next k s t f).1 h
  · rw [decide_eq_true (hk ▸ i.isLt)]
    exact hf i
  · rw [decide_eq_false (not_lt.2 hk)]
    exact .illegal

theorem of_onPr {j : InstNo} {f : Fin 2 → State} (h : onPr j s f = .next t)
    (hf : ∀ i, CommandOutcome s true (f i)) : CommandOutcome s (decide (j.toNat < 2)) t := by
  obtain ⟨i, hj, rfl⟩ | ⟨hj, rfl⟩ := (onPr_next j s t f).1 h
  · rw [decide_eq_true (hj ▸ i.isLt)]
    exact hf i
  · rw [decide_eq_false (not_lt.2 hj)]
    exact .illegal

/-- A command that stores results and notes no saturation is done. -/
theorem of_eq (hill : t.ill = s.ill) (hargerr : t.argerr = s.argerr) (hwlock : t.wlock = s.wlock)
    (hsatf : t.satf = s.satf) : CommandOutcome s true t := .completed ⟨hill, hargerr, hwlock, hsatf.symm ▸ id⟩

/-- A command that stores results beside the saturation it notes is done. -/
theorem of_noteSat (b : Bool) (hill : t.ill = s.ill) (hargerr : t.argerr = s.argerr) (hwlock : t.wlock = s.wlock)
    (hsatf : t.satf = (s.satf || b)) : CommandOutcome s true t :=
  .completed ⟨hill, hargerr, hwlock, fun h => by simp [hsatf, h]⟩

/-- Whichever way a command ends, no sticky bit is cleared (60_exceptions.md R438). -/
theorem keeps_set_bits (h : CommandOutcome s legal t) :
    (s.ill = true → t.ill = true) ∧ (s.argerr = true → t.argerr = true) ∧
    (s.satf = true → t.satf = true) ∧ (s.wlock = true → t.wlock = true) := by
  cases h with
  | illegal => exact ⟨fun _ => rfl, id, id, id⟩
  | argerr => exact ⟨id, fun _ => rfl, id, id⟩
  | completed h => exact ⟨h.ill.trans, h.argerr.trans, h.satf, h.wlock.trans⟩

end CommandOutcome

/-- Every command ends in one of the ways of R430, and which operands are legal is `wellFormed`
(60_exceptions.md R431-R433). -/
theorem exec_outcome (i : Instr) {s t : State} (h : exec i s = .next t) :
    CommandOutcome s i.wellFormed t := by
  cases i with
  | clarke rd rs1 rs2 rs3 => exact .of_whenLegal h (Bool.and_true _) (.of_noteSat _ rfl rfl rfl rfl)
  | iclarke rd rs1 rs2 => exact .of_whenLegal h (Bool.and_true _) (.of_noteSat _ rfl rfl rfl rfl)
  | park rd rs1 rs2 rs3 => exact .of_whenLegal h (Bool.and_true _) (.of_noteSat _ rfl rfl rfl rfl)
  | ipark rd rs1 rs2 rs3 => exact .of_whenLegal h (Bool.and_true _) (.of_noteSat _ rfl rfl rfl rfl)
  | piUpd rd rs1 rs2 k => exact .of_onPi h fun _ => .of_noteSat _ rfl rfl rfl rfl
  | piRst k => exact .of_onPi h fun _ => .of_eq rfl rfl rfl rfl
  | prUpd rd rs1 rs2 j => exact .of_onPr h fun _ => .of_noteSat _ rfl rfl rfl rfl
  | prRst j => exact .of_onPr h fun _ => .of_eq rfl rfl rfl rfl
  | prSetf rs1 j =>
    refine .of_onPr h fun i => ?_
    split
    · exact .argerr
    · exact .of_noteSat _ rfl rfl rfl rfl
  | pllUpd rd rs1 rs2 => exact .of_whenLegal h (Bool.and_true _) (.of_noteSat _ rfl rfl rfl rfl)
  | pllRst => cases h; exact .of_eq rfl rfl rfl rfl
  | svmCalc rd rs1 rs2 rs3 =>
    refine .of_whenLegal h (Bool.and_true _) ?_
    split
    · exact .argerr
    · exact .of_noteSat _ rfl rfl rfl rfl
  | svmMid => cases h; exact .of_eq rfl rfl rfl rfl
  | protUpd rd rs1 => exact .of_whenLegal h (Bool.and_true _) (.of_eq rfl rfl rfl rfl)
  | protClr => cases h; exact .of_eq rfl rfl rfl rfl
  | protSet rs1 => cases h; exact .of_eq rfl rfl rfl rfl

/-- `Legal(w)` decides whether the word at `CMD` is refused with `ILL` (60_exceptions.md R431). -/
theorem execute_outcome (w : Word) {s t : State} (h : execute w s = .next t) :
    CommandOutcome s (legalWord w) t := by
  cases hlegal : legalWord w with
  | false =>
    rw [execute_illegal hlegal] at h
    cases h
    exact .illegal
  | true =>
    obtain ⟨i, hdecode⟩ := (legalWord_iff_decode w).1 hlegal
    rw [execute_ok hdecode] at h
    exact (decode_ok hdecode).1 ▸ exec_outcome i h

/-! ### What one transaction can newly set -/

/-- How many of the four error bits are 1 in `t` and 0 in `s` (60_exceptions.md R436). -/
def newErrors (s t : State) : Nat :=
  (!s.ill && t.ill).toNat + (!s.argerr && t.argerr).toNat + (!s.satf && t.satf).toNat
    + (!s.wlock && t.wlock).toNat

theorem newErrors_raise_le (s : State) (e : ErrorBit) : newErrors s (s.raise e) ≤ 1 := by
  cases e <;> simp [newErrors, State.raise, Bool.toNat_le]

theorem Completed.newErrors_le {s t : State} (h : Completed s t) : newErrors s t ≤ 1 := by
  simp [newErrors, h.ill, h.argerr, h.wlock, Bool.toNat_le]

theorem CommandOutcome.newErrors_le {s t : State} {legal : Bool} (h : CommandOutcome s legal t) :
    newErrors s t ≤ 1 := by
  cases h with
  | illegal => exact newErrors_raise_le s .ill
  | argerr => exact newErrors_raise_le s .argerr
  | completed h => exact h.newErrors_le

theorem newErrors_clearStatus (s : State) (v : Word) : newErrors s (s.clearStatus v) = 0 := by
  simp [newErrors, ← Bool.and_assoc]

/-- A host write sets `WLOCK` or no error bit at all (60_exceptions.md R434, R436 item 5). -/
theorem newErrors_writeReg_le (s : State) (r : WinReg) (v : Word) : newErrors s (s.writeReg r v) ≤ 1 := by
  rcases s.writeReg_cases r v with ⟨-, h⟩ | ⟨-, h⟩ | ⟨n, -, h⟩ | ⟨-, h⟩ | ⟨-, h⟩ <;> rw [h]
  · exact Completed.newErrors_le ⟨rfl, rfl, rfl, id⟩
  · exact (newErrors_clearStatus s v).trans_le zero_le_one
  · exact Completed.newErrors_le ⟨rfl, rfl, rfl, id⟩
  · obtain ⟨-, hraise⟩ | ⟨-, hstore⟩ := s.writeCfg_cases r v
    · exact hraise ▸ newErrors_raise_le s .wlock
    · exact hstore ▸ (Completed.storeCfg s r v).newErrors_le
  · exact (Completed.refl s).newErrors_le

theorem memWrite_newErrors_le {off : BitVec 12} {n : Nat} {v : Word} {s t : State}
    (h : memWrite off n v s = .next t) : newErrors s t ≤ 1 := by
  rcases memWrite_cases off n v s with ⟨-, hw⟩ | ⟨-, -, hw⟩ | ⟨-, -, hw⟩ <;> rw [hw] at h
  · cases h
    exact ((Completed.refl s).respond _).newErrors_le
  · exact (execute_outcome v h).newErrors_le
  · cases h
    exact newErrors_writeReg_le s _ v

theorem memRead_completed (off : BitVec 12) (n : Nat) (s : State) : Completed s (memRead off n s) := by
  unfold memRead
  split <;> exact (Completed.refl s).respond _

/-- One event of the host newly sets at most one error bit; reset sets none. -/
theorem hostEvent_newErrors_le {e : HostEvent} {s t : State} (h : hostEvent e s = .next t) :
    newErrors s t ≤ 1 := by
  match e, h with
  | .read (.window off) n, h => cases h; exact (memRead_completed off n s).newErrors_le
  | .read (.outside _) _, h => cases h; exact ((Completed.refl s).respond _).newErrors_le
  | .write (.window _) _ _, h => exact memWrite_newErrors_le h
  | .write (.outside _) _ _, h => cases h; exact ((Completed.refl s).respond _).newErrors_le
  | .reset, h => cases h; simp [newErrors, State.resetEvent, State.reset]

/-! ### Refused transactions -/

theorem legalAccess_eq_false {off : BitVec 12} {n : Nat} (h : ¬ (n = 4 ∧ off.toNat % 4 = 0)) :
    legalAccess off n = false := by
  simpa [legalAccess] using h

theorem memRead_refused {off : BitVec 12} {n : Nat} (h : legalAccess off n = false) (s : State) :
    memRead off n s = s.respond .busError := by
  simp [memRead, h]

theorem memWrite_refused {off : BitVec 12} {n : Nat} (h : legalAccess off n = false) (v : Word) (s : State) :
    memWrite off n v s = .next (s.respond .busError) := by
  simp [memWrite, h]

theorem memWrite_cfg_locked {off : BitVec 12} (haligned : off.toNat % 4 = 0) {s : State}
    (hcfg : (regAt off.toNat).access = .cfg) (hlock : s.cfgLock = true) (v : Word) :
    memWrite off 4 v s = .next ((s.raise .wlock).respond .okay) := by
  have hcmd : regAt off.toNat ≠ .cmd := fun h => by simp [h, WinReg.access] at hcfg
  rw [memWrite_reg (legalAccess_of_aligned haligned) rfl hcmd, s.writeReg_cfg _ v hcfg]
  obtain ⟨-, hraise⟩ | ⟨hunlocked, -⟩ := s.writeCfg_cases (regAt off.toNat) v
  · rw [hraise]
  · simp [hlock] at hunlocked

theorem memWrite_ro {off : BitVec 12} (haligned : off.toNat % 4 = 0)
    (hro : (regAt off.toNat).access = .ro ∨ (regAt off.toNat).access = .razWi) (s : State) (v : Word) :
    memWrite off 4 v s = .next (s.respond .okay) := by
  have hcmd : regAt off.toNat ≠ .cmd := fun h => by simp [h, WinReg.access] at hro
  rw [memWrite_reg (legalAccess_of_aligned haligned) rfl hcmd, s.writeReg_ro _ v hro]

/-! ### The obligations -/

/-- Settles O22: a bit that was set stays, whichever way the command ends. -/
theorem commandsClearNoStickyBit : Obligations.CommandsClearNoStickyBit := by
  intro i s t h
  exact (exec_outcome i h).keeps_set_bits

/-- Settles O23: an illegal word ends in `ILL` alone, and a legal one that newly sets `ARGERR` was not done. -/
theorem failingCommandChangesOnlyItsBit : Obligations.FailingCommandChangesOnlyItsBit := by
  intro w s t h
  have houtcome := execute_outcome w h
  constructor
  · intro hlegal
    rw [hlegal] at houtcome
    cases houtcome
    rfl
  · intro hlegal
    rw [hlegal] at houtcome
    cases houtcome with
    | argerr => exact ⟨rfl, fun _ _ => rfl⟩
    | completed h => exact ⟨h.ill, fun hbefore hafter => by simp [h.argerr, hbefore] at hafter⟩

/-- Settles O24: a step is idle or one event, and an event newly sets at most one error bit. -/
theorem oneTransactionSetsAtMostOneErrorBit : Obligations.OneTransactionSetsAtMostOneErrorBit := by
  intro s t h
  change newErrors s t ≤ 1
  cases hpending : s.pending with
  | nil =>
    rw [step_idle hpending] at h
    cases h
    exact (Completed.refl s).newErrors_le
  | cons e rest =>
    rw [step_event hpending] at h
    exact hostEvent_newErrors_le (s := { s with pending := rest }) h

/-- Settles O16: a locked write is refused, a read-only or unmapped one is ignored, and `CommandFrame` says what
no command touches. -/
theorem lockedConfigurationWriteIsRefused : Obligations.LockedConfigurationWriteIsRefused := by
  refine ⟨fun s off v haligned hcfg hlock => ?_, fun s off v haligned hro => ?_, fun i s t h => ?_⟩
  · exact memWrite_cfg_locked haligned hcfg hlock v
  · exact memWrite_ro haligned hro s v
  · have hframe := exec_frame i h
    exact ⟨hframe.wlock, hframe.config⟩

/-- Settles O7: the write executes the word, and an illegal word executes to `ILL` alone. -/
theorem illegalCommandSetsOnlyIll : Obligations.IllegalCommandSetsOnlyIll := by
  intro s w rest hpending hillegal
  rw [step_event hpending]
  exact execute_illegal hillegal _

/-- Settles O10: the port refuses the access before it looks at the register or the data. -/
theorem otherAccessesGetABusError : Obligations.OtherAccessesGetABusError := by
  intro s rest off n v hother
  have hrefused := legalAccess_eq_false hother
  refine ⟨fun hpending => ?_, fun hpending => ?_⟩ <;> rw [step_event hpending]
  · exact congrArg Host.Outcome.next (memRead_refused hrefused _)
  · exact memWrite_refused hrefused v _

end Sys2Proof.Machine

/-! ## Proofs: the reset event and the totality of the step (70_reset_and_hazards.md R470, R471)

What every register of the window reads as after reset, that no command, access or error stops the core, and how
a command with illegal operands ends. -/

namespace Sys2Proof.Machine

/-! ### Every command, access and event has a next state -/

/-- Every command of the opcode table has a meaning, and none faults (60_exceptions.md R430). -/
theorem exec_has_next (i : Instr) (s : State) : ∃ t, exec i s = .next t := by
  cases i <;> exact ⟨_, rfl⟩

/-- A word at `CMD` is executed or refused with `ILL` (20_memory.md R137). -/
theorem execute_has_next (w : Word) (s : State) : ∃ t, execute w s = .next t := by
  cases hdecode : decode w with
  | ok i => exact execute_ok hdecode s ▸ exec_has_next i s
  | error e => exact ⟨_, execute_error hdecode s⟩

theorem memWrite_has_next (off : BitVec 12) (n : Nat) (v : Word) (s : State) :
    ∃ t, memWrite off n v s = .next t := by
  obtain ⟨-, hrefused⟩ | ⟨-, -, hcmd⟩ | ⟨-, -, hwrite⟩ := memWrite_cases off n v s
  · exact ⟨_, hrefused⟩
  · exact hcmd ▸ execute_has_next v (s.respond .okay)
  · exact ⟨_, hwrite⟩

theorem hostEvent_has_next (e : HostEvent) (s : State) : ∃ t, hostEvent e s = .next t := by
  match e with
  | .read (.window _) _ => exact ⟨_, rfl⟩
  | .read (.outside _) _ => exact ⟨_, rfl⟩
  | .write (.window off) n v => exact memWrite_has_next off n v s
  | .write (.outside _) _ _ => exact ⟨_, rfl⟩
  | .reset => exact ⟨_, rfl⟩

/-! ### The registers after reset -/

/-- The value of a register after reset (70_reset_and_hazards.md R471); `readReg_resetEvent` ties it to the
reset event. -/
def WinReg.resetValue (r : WinReg) : Word :=
  if r = .id then 0x43505431
  else if r = .status then 0x00000100
  else if r = .svm .dutyA ∨ r = .svm .dutyB ∨ r = .svm .dutyC then 0x00008000
  else 0

theorem readPi_reset (r : PiReg) : readPi PiUnit.reset r = 0 := by cases r <;> rfl

theorem readPr_reset (r : PrReg) : readPr PrUnit.reset r = 0 := by cases r <;> rfl

theorem readPll_reset (r : PllReg) : readPll PllUnit.reset r = 0 := by cases r <;> rfl

theorem readProt_reset (r : ProtReg) : readProt ProtUnit.reset r = 0 := by cases r <;> rfl

/-- The reset event gives every register its reset value, whatever the state was. -/
theorem State.readReg_resetEvent (s : State) (r : WinReg) : s.resetEvent.readReg r = r.resetValue := by
  cases r with
  | status => exact s.resetEvent.statusWord_eq_sum
  | x n => exact Vector.getElem_replicate _
  | pi k r => exact (congrArg (readPi · r) (Vector.getElem_replicate _)).trans (readPi_reset r)
  | pr j r => exact (congrArg (readPr · r) (Vector.getElem_replicate _)).trans (readPr_reset r)
  | pll r => exact readPll_reset r
  | prot r => exact readProt_reset r
  | svm r => cases r <;> rfl
  | _ => rfl

/-- `regAt_eq_iff` at an offset of the window given as the twelve bits of the bus. -/
theorem regAt_toNat_eq_iff {off a : BitVec 12} (haligned : off.toNat % 4 = 0) {r : WinReg} (hr : r ≠ .unmapped)
    (ha : r.offset = a.toNat) : regAt off.toNat = r ↔ off = a := by
  rw [regAt_eq_iff haligned hr, ha, BitVec.toNat_inj]

/-- The offsets whose register does not reset to 0 are those of `ID`, `STATUS` and the three duties. -/
theorem resetValue_regAt {off : BitVec 12} (haligned : off.toNat % 4 = 0) : (regAt off.toNat).resetValue =
    if off = 0x000 then 0x43505431
    else if off = 0x008 then 0x00000100
    else if off = 0x380 ∨ off = 0x384 ∨ off = 0x388 then 0x00008000
    else 0 := by
  have hid : regAt off.toNat = .id ↔ off = 0x000 := regAt_toNat_eq_iff haligned (by simp) rfl
  have hstatus : regAt off.toNat = .status ↔ off = 0x008 := regAt_toNat_eq_iff haligned (by simp) rfl
  have hdutyA : regAt off.toNat = .svm .dutyA ↔ off = 0x380 := regAt_toNat_eq_iff haligned (by simp) rfl
  have hdutyB : regAt off.toNat = .svm .dutyB ↔ off = 0x384 := regAt_toNat_eq_iff haligned (by simp) rfl
  have hdutyC : regAt off.toNat = .svm .dutyC ↔ off = 0x388 := regAt_toNat_eq_iff haligned (by simp) rfl
  simp only [WinReg.resetValue, hid, hstatus, hdutyA, hdutyB, hdutyC]

/-- The output ports follow the registers at reset (10_state.md R93). -/
theorem State.ports_resetEvent (s : State) :
    s.resetEvent.ports = ⟨0x8000, 0x8000, 0x8000, 0, true, false⟩ := rfl

/-! ### The obligations -/

/-- Settles O6: a step is idle or one event, and every event has a next state. -/
theorem everyStepHasANextState : Obligations.EveryStepHasANextState := by
  intro s
  cases hpending : s.pending with
  | nil => exact ⟨s, step_idle hpending⟩
  | cons e rest => exact step_event hpending ▸ hostEvent_has_next e { s with pending := rest }

/-- Settles O8: the command has a next state, and of the ways a command can end only `ILL` is left to illegal
operands. -/
theorem illFormedCommandSetsOnlyIll : Obligations.IllFormedCommandSetsOnlyIll := by
  intro i s hillformed
  obtain ⟨t, ht⟩ := exec_has_next i s
  have houtcome := exec_outcome i ht
  rw [hillformed] at houtcome
  cases houtcome
  exact ht

/-- Settles O9: the step is the reset event, after which each register reads its reset value. -/
theorem resetEventGivesTheResetValues : Obligations.ResetEventGivesTheResetValues := by
  intro s rest hpending
  refine ⟨({ s with pending := rest } : State).resetEvent, step_event hpending, fun off haligned => ?_, ?_⟩
  · exact (State.readReg_resetEvent _ _).trans (resetValue_regAt haligned)
  · exact State.ports_resetEvent _

end Sys2Proof.Machine
